-- ==== Sys2Proof/Word.lean ====
section
/-! DEFINITION. The words of the command port and the number type of the datapath.
Spec: 30_encoding.md R80 (a 32-bit command word, a 64-bit data word), 20_memory.md R63 (the binary64
bit layout), 00_scope.md R12 (`Num`, `fromBits`, `toBits`). -/

namespace Sys2Proof

/-- A command word (R80). -/
abbrev CmdWord := BitVec 32

/-- A data word or a response word (R80). -/
abbrev DataWord := BitVec 64

/-- A byte of a serialised word (R63). -/
abbrev Byte := BitVec 8

/-- `Num`: a binary64 value, held as its 64 bits (R12, R63). `F64` is `Num` (Mathlib has another `Num`). It is a type of its own, so that the integer
addition of `BitVec 64` is never taken for the addition of numbers. -/
structure F64 where
  bits : DataWord
deriving DecidableEq, Repr, Inhabited

/-- `fromBits(d)` (R12). -/
def F64.fromBits (d : DataWord) : F64 := ⟨d⟩

/-- `toBits(x)` (R12). -/
def F64.toBits (x : F64) : DataWord := x.bits

@[simp] theorem F64.toBits_fromBits (d : DataWord) : (F64.fromBits d).toBits = d := rfl
@[simp] theorem F64.fromBits_toBits (x : F64) : F64.fromBits x.toBits = x := rfl

end Sys2Proof
end

