-- ==== Sys2Proof/Config.lean ====
section
/-! DEFINITION. What an implementation of the block fixes: the static parameters of 00_scope.md R7, the
reference configuration REFCFG, the test configuration TESTCFG (R8), and the FREE VALUES, which are `opaque`
and without a body: nothing can be proved of them, so a statement that mentions one holds whatever it is.

A parameter that is a function (EXP, WAVE_A, SHAPER, ...) is a selector `FnChoice`: the spec's reference
function, or the `n`-th member of an opaque family. What the spec lets a model assume of such a function is
imposed in Machine/OpenFn.lean. DESIGN CHOICE, logs 3, 9, 10, 11. -/

namespace Sys2Proof

/-! ## Names of registers, modes and stages -/

/-- The parameter registers, in address order 0..10 (10_state.md R27). -/
inductive ParamId where
  | wave | cutoff | resonance | envmod | decay | accent | volume | morph | drive | bend | extmix
deriving DecidableEq, Repr

/-- One Num per parameter: the shape of `P.c`, `P.q`, `P.e`, `P.v` (10_state.md R26, R27). -/
structure ParamSet where
  wave      : F64
  cutoff    : F64
  resonance : F64
  envmod    : F64
  decay     : F64
  accent    : F64
  volume    : F64
  morph     : F64
  drive     : F64
  bend      : F64
  extmix    : F64
deriving DecidableEq, Repr, Inhabited

/-- The configuration registers, in address order 0..4 (10_state.md R30). -/
inductive ConfigId where
  | tuning | slideTime | normalPathTau | accentPathTau | morphHiMode
deriving DecidableEq, Repr

/-- One Num per configuration register (10_state.md R29, R30). -/
structure ConfigSet where
  tuning        : F64
  slideTime     : F64
  normalPathTau : F64
  accentPathTau : F64
  morphHiMode   : F64
deriving DecidableEq, Repr, Inhabited

/-- The fifteen filter modes, in code order 0..14 (44_filter.md R254). -/
inductive FilterMode where
  | flat | lp6 | lp12 | lp18 | lp24 | hp6 | hp12 | hp18 | hp24
  | bp12_12 | bp6_18 | bp18_6 | bp6_12 | bp12_6 | ladder
deriving DecidableEq, Repr, Inhabited

/-- The mode code (44_filter.md R254). -/
def FilterMode.code : FilterMode → Nat
  | .flat => 0
  | .lp6 => 1
  | .lp12 => 2
  | .lp18 => 3
  | .lp24 => 4
  | .hp6 => 5
  | .hp12 => 6
  | .hp18 => 7
  | .hp24 => 8
  | .bp12_12 => 9
  | .bp6_18 => 10
  | .bp18_6 => 11
  | .bp6_12 => 12
  | .bp12_6 => 13
  | .ladder => 14

/-- The auxiliary stages (10_state.md R38). -/
inductive AuxStage where
  | preHpf | aaLpf | allpass | postHpf | notch
deriving DecidableEq, Repr

/-- `ALL_OFF_MODE` (41_note.md R162). -/
inductive AllOffMode where
  | release | clear
deriving DecidableEq, Repr

/-- Which function an OPEN or tolerated function parameter is: the spec's reference function, or the `n`-th
function of the opaque family of that parameter below. -/
inductive FnChoice where
  | reference
  | free (n : Nat)
deriving DecidableEq, Repr

/-- One row of `MODE_TABLE` with its `MODE_GAIN` (44_filter.md R255, R256). -/
structure ModeRow where
  c0   : F64
  c1   : F64
  c2   : F64
  c3   : F64
  c4   : F64
  gain : F64
deriving DecidableEq, Repr, Inhabited

/-- The five coefficients of a biquad section (10_state.md R38). -/
structure BiquadCoefs where
  b0 : F64
  b1 : F64
  b2 : F64
  a1 : F64
  a2 : F64
deriving DecidableEq, Repr, Inhabited

/-- The results of a filter coefficient derivation: `G`, `K`, `DL` (44_filter.md R261). -/
structure FilterCoefs where
  g  : F64
  k  : F64
  dl : F64
deriving DecidableEq, Repr, Inhabited

/-- An auxiliary stage's static parameters: its section count (at least 1) and its coefficient function
(10_state.md R38, 45_morph_chain.md R300). -/
structure AuxSpec where
  sections : Nat
  coef     : FnChoice
deriving DecidableEq, Repr

/-! ## Free values -/

namespace Config

/-- The bits of a NaN an arithmetic operation makes (log 5): the operation's number, its operands. -/
opaque nanResult : Nat → F64 → F64 → F64

/-- LN outside its domain, at zero and below (log 6). -/
opaque lnOutOfDomain : F64 → F64

/-- NORM of two time constants whose quotient is no positive finite Num, which leaves the formula of
43_envelopes.md R215 without a value (log 6). -/
opaque freeNorm : F64 → F64 → F64

/-- The admissible results of EXP, POW2, POW10, LN other than the correctly rounded one (00_scope.md R13). -/
opaque freeExp : Nat → F64 → F64
opaque freePow2 : Nat → F64 → F64
opaque freePow10 : Nat → F64 → F64
opaque freeLn : Nat → F64 → F64

/-- `WAVE_A`, `WAVE_B` of phase and increment (42_tick_osc.md R190). -/
opaque freeWaveA : Nat → F64 → F64 → F64
opaque freeWaveB : Nat → F64 → F64 → F64

/-- `SHAPER` (44_filter.md R266). -/
opaque freeShaper : Nat → F64 → F64

/-- `RES_SKEW` (44_filter.md R264). -/
opaque freeResSkew : Nat → F64 → F64

/-- `COEF_APPROX` of cutoff, resonance, drive and rate (44_filter.md R262). -/
opaque freeCoefApprox : Nat → F64 → F64 → F64 → F64 → FilterCoefs

/-- `AUX_COEF[STAGE]` of section index and rate (45_morph_chain.md R300). -/
opaque freeAuxCoef : Nat → AuxStage → Nat → F64 → BiquadCoefs

/-! ## Fixed numbers -/

/-- 12.0 -/
def n12 : F64 := ⟨0x4028000000000000#64⟩

/-- -12.0 -/
def m12 : F64 := ⟨0xC028000000000000#64⟩

end Config

/-! ## The static parameters -/

/-- The static parameters of 00_scope.md R7, by their names there. -/
structure StaticParams where
  /-- `OS`, integer at least 1 -/
  os : Nat
  /-- `NUM_PARAMS`. No rule reads it: the rules write the addresses 0..10 out (10_state.md R27, 20_memory.md R60), so a
  configuration has 11 here (`Machine.StaticOk`, log 13). -/
  numParams : Nat
  /-- `NUM_MODES`. No rule reads it: the rules write the codes 0..14 out (44_filter.md R254), so a configuration has 15
  here, and as many rows in `MODE_TABLE` (`Machine.StaticOk`, log 13). -/
  numModes : Nat
  /-- `ACCENT_THRESHOLD` -/
  accentThreshold : Nat
  /-- `BEND_RANGE`, semitones: PARAM_MAX[9], and PARAM_MIN[9] is its negative (`StaticParams.paramMin`, log 3) -/
  bendRange : F64
  /-- `MORPH_SPLIT` -/
  morphSplit : F64
  /-- `FRAC_MAX` -/
  fracMax : F64
  /-- `REF_NOTE` -/
  refNote : F64
  /-- `INC_MAX` -/
  incMax : F64
  /-- `K_SCALE` -/
  kScale : F64
  /-- `RES_SKEW` -/
  resSkew : FnChoice
  /-- `FB_HPF_FC`, Hz -/
  fbHpfFc : F64
  /-- `SHAPER` -/
  shaper : FnChoice
  /-- `WAVE_A` -/
  waveA : FnChoice
  /-- `WAVE_B` -/
  waveB : FnChoice
  /-- `MODE_TABLE` and `MODE_GAIN`, one row per mode code 0..14 -/
  modeTable : List ModeRow
  /-- `COEF_APPROX` -/
  coefApprox : FnChoice
  /-- `COEF_TOL` -/
  coefTol : F64
  /-- `MORPH_B_MODE` -/
  morphBMode : FilterMode
  /-- `FILTER_B_GAIN` -/
  filterBGain : F64
  /-- `ACCENT_DECAY_MS` -/
  accentDecayMs : F64
  /-- `MAIN_RAMP_MS` -/
  mainRampMs : F64
  /-- `AMP_ATTACK_MS` -/
  ampAttackMs : F64
  /-- `AMP_DECAY_MS` -/
  ampDecayMs : F64
  /-- `AMP_SUSTAIN` -/
  ampSustain : F64
  /-- `AMP_RELEASE_MS` -/
  ampReleaseMs : F64
  /-- `AMP_NORM_AMT` -/
  ampNormAmt : F64
  /-- `AMP_ACC_AMT` -/
  ampAccAmt : F64
  /-- `ENVMOD_OCT` -/
  envmodOct : F64
  /-- `ACCENT_OCT` -/
  accentOct : F64
  /-- `FC_MIN`, Hz -/
  fcMin : F64
  /-- `FC_MAX_RATIO` -/
  fcMaxRatio : F64
  /-- `DECLICK_FC`, Hz -/
  declickFc : F64
  /-- `ENV_EPS` -/
  envEps : F64
  /-- `IDLE_EPS` -/
  idleEps : F64
  /-- `ALL_OFF_MODE` -/
  allOffMode : AllOffMode
  /-- `PRE_HPF` -/
  preHpf : AuxSpec
  /-- `AA_LPF` -/
  aaLpf : AuxSpec
  /-- `ALLPASS` -/
  allpass : AuxSpec
  /-- `POST_HPF` -/
  postHpf : AuxSpec
  /-- `NOTCH` -/
  notch : AuxSpec
  /-- `PARAM_MIN` but for BEND, whose range is `bendRange`; the entry `bend` is not read -/
  paramMinTable : ParamSet
  /-- `PARAM_MAX` but for BEND, whose range is `bendRange`; the entry `bend` is not read -/
  paramMaxTable : ParamSet
  /-- `PARAM_RESET` -/
  paramReset : ParamSet
  /-- `CONFIG_RESET` -/
  configReset : ConfigSet
  /-- `EXP` -/
  expFn : FnChoice
  /-- `POW2` -/
  pow2Fn : FnChoice
  /-- `POW10` -/
  pow10Fn : FnChoice
  /-- `LN` -/
  lnFn : FnChoice
deriving DecidableEq, Repr

namespace Config

/-- The numbers the reference tables are written with, by their bits. -/
def n0 : F64 := ⟨0x0000000000000000#64⟩
/-- 1.0 -/
def n1 : F64 := ⟨0x3FF0000000000000#64⟩
/-- 3.0 -/
def n3 : F64 := ⟨0x4008000000000000#64⟩
/-- 6.0 -/
def n6 : F64 := ⟨0x4018000000000000#64⟩
/-- -1.0 -/
def m1 : F64 := ⟨0xBFF0000000000000#64⟩
/-- -2.0 -/
def m2 : F64 := ⟨0xC000000000000000#64⟩
/-- -3.0 -/
def m3 : F64 := ⟨0xC008000000000000#64⟩
/-- -4.0 -/
def m4 : F64 := ⟨0xC010000000000000#64⟩

/-- The reference `MODE_TABLE` with `MODE_GAIN` 1.0 for every mode (44_filter.md R255, R256). -/
def refModeTable : List ModeRow :=
  [ ⟨n1, n0, n0, n0, n0, n1⟩,   -- 0 FLAT
    ⟨n0, n1, n0, n0, n0, n1⟩,   -- 1 LP6
    ⟨n0, n0, n1, n0, n0, n1⟩,   -- 2 LP12
    ⟨n0, n0, n0, n1, n0, n1⟩,   -- 3 LP18
    ⟨n0, n0, n0, n0, n1, n1⟩,   -- 4 LP24
    ⟨n1, m1, n0, n0, n0, n1⟩,   -- 5 HP6
    ⟨n1, m2, n1, n0, n0, n1⟩,   -- 6 HP12
    ⟨n1, m3, n3, m1, n0, n1⟩,   -- 7 HP18
    ⟨n1, m4, n6, m4, n1, n1⟩,   -- 8 HP24
    ⟨n0, n0, n1, m2, n1, n1⟩,   -- 9 BP12_12
    ⟨n0, n0, n0, n1, m1, n1⟩,   -- 10 BP6_18
    ⟨n0, n1, m3, n3, m1, n1⟩,   -- 11 BP18_6
    ⟨n0, n0, n1, m1, n0, n1⟩,   -- 12 BP6_12
    ⟨n0, n1, m2, n1, n0, n1⟩,   -- 13 BP12_6
    ⟨n0, n0, n0, n0, n1, n1⟩ ]  -- 14 LADDER

/-- `PARAM_MIN` (10_state.md R27). -/
def refParamMin : ParamSet where
  wave      := n0
  cutoff    := ⟨0x4034000000000000#64⟩   -- 20
  resonance := n0
  envmod    := n0
  decay     := ⟨0x403E000000000000#64⟩   -- 30
  accent    := n0
  volume    := ⟨0xC04E000000000000#64⟩   -- -60
  morph     := n0
  drive     := ⟨0xC028000000000000#64⟩   -- -12
  bend      := m12                       -- -12
  extmix    := n0

/-- `PARAM_MAX` (10_state.md R27). -/
def refParamMax : ParamSet where
  wave      := n1
  cutoff    := ⟨0x40D3880000000000#64⟩   -- 20000
  resonance := ⟨0x4059000000000000#64⟩   -- 100
  envmod    := ⟨0x4059000000000000#64⟩   -- 100
  decay     := ⟨0x40A7700000000000#64⟩   -- 3000
  accent    := ⟨0x4059000000000000#64⟩   -- 100
  volume    := n6
  morph     := n1
  drive     := ⟨0x4038000000000000#64⟩   -- 24
  bend      := n12                       -- 12
  extmix    := n1

/-- `PARAM_RESET` (10_state.md R27). -/
def refParamReset : ParamSet where
  wave      := n0
  cutoff    := ⟨0x408F400000000000#64⟩   -- 1000
  resonance := ⟨0x4049000000000000#64⟩   -- 50
  envmod    := ⟨0x4039000000000000#64⟩   -- 25
  decay     := ⟨0x4079000000000000#64⟩   -- 400
  accent    := ⟨0x4049000000000000#64⟩   -- 50
  volume    := n0
  morph     := n0
  drive     := n0
  bend      := n0
  extmix    := n0

/-- `CONFIG_RESET` (10_state.md R30). -/
def refConfigReset : ConfigSet where
  tuning        := ⟨0x407B800000000000#64⟩   -- 440
  slideTime     := ⟨0x404E000000000000#64⟩   -- 60
  normalPathTau := ⟨0x402E000000000000#64⟩   -- 15
  accentPathTau := ⟨0x4014000000000000#64⟩   -- 5
  morphHiMode   := ⟨0x4020000000000000#64⟩   -- 8

/-- An auxiliary stage of the reference configuration: one identity section (00_scope.md R7). -/
def refAux : AuxSpec := { sections := 1, coef := .reference }

/-- REFCFG, the reference configuration (00_scope.md R7). -/
def REFCFG : StaticParams where
  os              := 4
  numParams       := 11
  numModes        := 15
  accentThreshold := 100
  bendRange       := n12
  morphSplit      := ⟨0x3FE0000000000000#64⟩   -- 0.5
  fracMax         := ⟨0x3FEFFFFFFFFFFFFF#64⟩   -- 1 - 2^-53
  refNote         := ⟨0x4051400000000000#64⟩   -- 69
  incMax          := ⟨0x3FE0000000000000#64⟩   -- 0.5
  kScale          := ⟨0x4010000000000000#64⟩   -- 4
  resSkew         := .reference
  fbHpfFc         := ⟨0x4062C00000000000#64⟩   -- 150
  shaper          := .reference
  waveA           := .reference
  waveB           := .reference
  modeTable       := refModeTable
  coefApprox      := .reference
  coefTol         := n0
  morphBMode      := .bp12_12
  filterBGain     := ⟨0x4000000000000000#64⟩   -- 2.0
  accentDecayMs   := ⟨0x4069000000000000#64⟩   -- 200
  mainRampMs      := n3
  ampAttackMs     := n3
  ampDecayMs      := ⟨0x408F400000000000#64⟩   -- 1000
  ampSustain      := ⟨0x3FE6666666666666#64⟩   -- 0.7
  ampReleaseMs    := ⟨0x4024000000000000#64⟩   -- 10
  ampNormAmt      := n0
  ampAccAmt       := ⟨0x3FE0000000000000#64⟩   -- 0.5
  envmodOct       := ⟨0x4010000000000000#64⟩   -- 4.0
  accentOct       := ⟨0x4000000000000000#64⟩   -- 2.0
  fcMin           := ⟨0x4024000000000000#64⟩   -- 10
  fcMaxRatio      := ⟨0x3FD0000000000000#64⟩   -- 0.25
  declickFc       := ⟨0x4069000000000000#64⟩   -- 200
  envEps          := ⟨0x3EB0C6F7A0B5ED8D#64⟩   -- 1e-6
  idleEps         := ⟨0x3EB0C6F7A0B5ED8D#64⟩   -- 1e-6
  allOffMode      := .release
  preHpf          := refAux
  aaLpf           := refAux
  allpass         := refAux
  postHpf         := refAux
  notch           := refAux
  paramMinTable   := refParamMin
  paramMaxTable   := refParamMax
  paramReset      := refParamReset
  configReset     := refConfigReset
  expFn           := .reference
  pow2Fn          := .reference
  pow10Fn         := .reference
  lnFn            := .reference

/-- TESTCFG, the configuration of the derived test vectors (00_scope.md R8). -/
def TESTCFG : StaticParams :=
  { REFCFG with
    fbHpfFc       := n0
    mainRampMs    := n0
    ampAttackMs   := ⟨0x4010000000000000#64⟩   -- 4
    ampNormAmt    := n0
    ampAccAmt     := n0
    accentDecayMs := ⟨0x4069000000000000#64⟩ } -- 200

end Config

end Sys2Proof
end

