-- ==== Sys2Proof/Machine/Binary64.lean ====
section
/-! DEFINITION. Binary64 arithmetic (00_scope.md R12, R13; 20_memory.md R63): each of `+ - * /` is one
operation rounded to nearest, ties to even; subnormals are kept; comparisons, `clamp`, `min`, `max`, `abs`,
`isFinite`. Every finite binary64 value is an integer multiple of 2^-1074, so an operation is computed exactly on
integers in that unit and narrowed once, by `roundMag`. The rules of IEEE 754 that the spec names but does not
spell out (infinities, signed zeros, NaN) are PRESUMED, log 15. -/

namespace Sys2Proof

/-! ## Fields and classes (20_memory.md R63) -/

/-- Bit 63. -/
def F64.signOf (x : F64) : Bool := x.bits.msb

/-- Bits 62:52, the biased exponent. -/
def F64.expOf (x : F64) : Nat := x.bits.toNat / 2 ^ 52 % 2 ^ 11

/-- Bits 51:0, the fraction. -/
def F64.fracOf (x : F64) : Nat := x.bits.toNat % 2 ^ 52

/-- `isFinite(x)`: false for NaN and the infinities (R13). -/
def F64.isFinite (x : F64) : Bool := decide (F64.expOf x ≠ 2047)

/-- NaN: all exponent bits set and a fraction other than 0. -/
def F64.isNaN (x : F64) : Bool := decide (F64.expOf x = 2047) && decide (F64.fracOf x ≠ 0)

/-- An infinity. -/
def F64.isInf (x : F64) : Bool := decide (F64.expOf x = 2047) && decide (F64.fracOf x = 0)

/-- The magnitude in units of 2^-1074; an infinity counts as 2^2098, which is above every finite magnitude. -/
def F64.mag (x : F64) : Nat :=
  if F64.expOf x = 0 then F64.fracOf x else (2 ^ 52 + F64.fracOf x) * 2 ^ (F64.expOf x - 1)

/-- The value in units of 2^-1074. -/
def F64.value (x : F64) : Int := if F64.signOf x then -(F64.mag x : Int) else (F64.mag x : Int)

/-- A zero of either sign. -/
def F64.isZero (x : F64) : Bool := decide (F64.mag x = 0)

/-- The Num of a sign and the 63 bits below it. -/
def F64.ofSignBits (neg : Bool) (b : Nat) : F64 :=
  ⟨BitVec.ofNat 64 ((if neg then 2 ^ 63 else 0) + b)⟩

/-- +0.0 -/
def F64.zero : F64 := F64.ofSignBits false 0

/-- The bits of an infinity without its sign: exponent 2047, fraction 0. -/
def F64.infBits : Nat := 2047 * 2 ^ 52

/-- An infinity of a sign. -/
def F64.infinity (neg : Bool) : F64 := F64.ofSignBits neg F64.infBits

/-- A NaN whose bits are free (log 5): whatever NaN the implementation makes of operation `op` on `x`, `y`. -/
def F64.makeNaN (op : Nat) (x y : F64) : F64 :=
  let n := Config.nanResult op x y
  if F64.isNaN n then n else F64.ofSignBits false (F64.infBits + 2 ^ 51)

/-! ## Rounding -/

/-- The integer nearest to `n / d`, ties to even. -/
def roundHalfEven (n d : Nat) : Nat :=
  let m := n / d
  let r := n % d
  if d < 2 * r ∨ (2 * r = d ∧ m % 2 = 1) then m + 1 else m

/-- The exponent step of the binade that `n / d` units of 2^-1074 lie in: the last place of a binary64 number of that
magnitude is `2 ^ ulpExp` units. -/
def ulpExp (n d : Nat) : Nat := Nat.log2 (n / d) - 52

/-- The binary64 number nearest to `n / d` units of 2^-1074, ties to even, with a sign; beyond the largest
finite number, the infinity (R12). A significand that rounds up to 2^53 carries into the exponent by itself. -/
def F64.roundMag (neg : Bool) (n d : Nat) : F64 :=
  let e := ulpExp n d
  let b := e * 2 ^ 52 + roundHalfEven n (d * 2 ^ e)
  if F64.infBits ≤ b then F64.infinity neg else F64.ofSignBits neg b

/-- The exact conversion of an integer (40_control.md R135; exact below 2^53). -/
def F64.ofNat (n : Nat) : F64 := F64.roundMag false (n * 2 ^ 1074) 1

/-! ## Arithmetic (R12) -/

/-- `-x`: the sign bit flipped. -/
def F64.neg (x : F64) : F64 := ⟨x.bits ^^^ 0x8000000000000000#64⟩

/-- `abs(x)` (R13): the sign bit cleared. -/
def F64.abs (x : F64) : F64 := ⟨x.bits &&& 0x7FFFFFFFFFFFFFFF#64⟩

/-- `x + y`. An exact sum of 0 is +0.0 unless both operands are negative zeros. -/
def F64.add (x y : F64) : F64 :=
  if F64.isNaN x || F64.isNaN y then F64.makeNaN 0 x y
  else if F64.isInf x then
    if F64.isInf y && (F64.signOf x != F64.signOf y) then F64.makeNaN 0 x y else x
  else if F64.isInf y then y
  else
    let s := F64.value x + F64.value y
    if s = 0 then F64.ofSignBits (F64.signOf x && F64.signOf y) 0
    else F64.roundMag (decide (s < 0)) s.natAbs 1

/-- `x - y`. -/
def F64.sub (x y : F64) : F64 := F64.add x (F64.neg y)

/-- `x * y`. -/
def F64.mul (x y : F64) : F64 :=
  if F64.isNaN x || F64.isNaN y then F64.makeNaN 1 x y
  else if F64.isInf x || F64.isInf y then
    if F64.isZero x || F64.isZero y then F64.makeNaN 1 x y else F64.infinity (F64.signOf x != F64.signOf y)
  else F64.roundMag (F64.signOf x != F64.signOf y) (F64.mag x * F64.mag y) (2 ^ 1074)

/-- `x / y`. A finite number other than 0 divided by 0 is an infinity. -/
def F64.div (x y : F64) : F64 :=
  if F64.isNaN x || F64.isNaN y then F64.makeNaN 2 x y
  else if F64.isInf x then
    if F64.isInf y then F64.makeNaN 2 x y else F64.infinity (F64.signOf x != F64.signOf y)
  else if F64.isInf y then F64.ofSignBits (F64.signOf x != F64.signOf y) 0
  else if F64.isZero y then
    if F64.isZero x then F64.makeNaN 2 x y else F64.infinity (F64.signOf x != F64.signOf y)
  else F64.roundMag (F64.signOf x != F64.signOf y) (F64.mag x * 2 ^ 1074) (F64.mag y)

/-! ## Comparisons: false on a NaN; the two zeros are equal -/

/-- `x < y` -/
def F64.lt (x y : F64) : Bool := !F64.isNaN x && !F64.isNaN y && decide (F64.value x < F64.value y)

/-- `x ≤ y` -/
def F64.le (x y : F64) : Bool := !F64.isNaN x && !F64.isNaN y && decide (F64.value x ≤ F64.value y)

/-- `x = y` -/
def F64.eq (x y : F64) : Bool := !F64.isNaN x && !F64.isNaN y && decide (F64.value x = F64.value y)

/-- `clamp(x, lo, hi)` = `lo` if `x < lo`, else `hi` if `x > hi`, else `x` (R13). -/
def F64.clamp (x lo hi : F64) : F64 := if F64.lt x lo then lo else if F64.lt hi x then hi else x

/-- `min(a, b)` = `a` if `a ≤ b` else `b` (R13). -/
def F64.min (a b : F64) : F64 := if F64.le a b then a else b

/-- `max(a, b)` = `a` if `a ≥ b` else `b` (R13). -/
def F64.max (a b : F64) : F64 := if F64.le b a then a else b

/-! ## Constants -/

/-- 1.0 -/
def F64.one : F64 := F64.ofNat 1

/-- `π`, the binary64 value nearest to pi (R13). -/
def F64.pi : F64 := ⟨0x400921FB54442D18#64⟩

end Sys2Proof
end

