-- ==== Sys2Proof/Machine/MathFn.lean ====
section
/-! DEFINITION. EXP, POW2, POW10 and LN (00_scope.md R13): the exact result of each at an argument, on integers with
320 fraction bits; the reference function, which is that result rounded once ("the reference configuration takes the
correctly rounded binary64 result"); and which Nums lie within one unit in the last place of it. That 320 bits
decide every rounding and every tolerance is UNVERIFIED here (log 7). What EXP, POW2 and POW10 do at the infinities
is DEDUCED (log 8); LN at zero and below is a free value (log 6). -/

namespace Sys2Proof.Machine

/-! ## Exact results -/

/-- The exact result of a function at an argument: a sign, and the magnitude `num / den` in units of 2^-1074. -/
structure ExactResult where
  neg : Bool
  num : Nat
  den : Nat
deriving DecidableEq, Repr

/-- The correctly rounded result. -/
def ExactResult.round (e : ExactResult) : F64 := F64.roundMag e.neg e.num e.den

/-- `y` lies within one unit in the last place of `e` (R13): a unit is the distance of neighbouring Nums in the binade
that `e` lies in, 2^-1074 below the normal numbers; an infinity counts as 2^1024 (log 9). -/
def ExactResult.admits (e : ExactResult) (y : F64) : Bool :=
  !y.isNaN &&
    decide ((y.value * (e.den : Int) - (if e.neg then -(e.num : Int) else (e.num : Int))).natAbs
      ≤ e.den * 2 ^ ulpExp e.num e.den)

/-- A result above every finite Num: 2^1025. -/
def ExactResult.huge : ExactResult := { neg := false, num := 2 ^ 2099, den := 1 }

/-- A result above 0 and below half the smallest Num. -/
def ExactResult.tiny : ExactResult := { neg := false, num := 1, den := 4 }

/-! ## Fixed point -/

/-- 1.0 in fixed point: 320 fraction bits. -/
def fixOne : Nat := 2 ^ 320

/-- ln 2 in fixed point, rounded down. -/
def fixLn2 : Nat :=
  1480553391661173448385607439722553250922680800745876974795605978609098082859138712941075737848984

/-- ln 10 in fixed point, rounded down. -/
def fixLn10 : Nat :=
  4918291907740024740970831782362431310175207760889245310223913306380410648029428283437959759282547

/-- Horner's scheme for the series of e^r, from the term of degree `k` down: `acc` is the value of the
terms above. -/
def expSeries (r : Nat) : Nat → Nat → Nat
  | 0, acc => acc
  | k + 1, acc => expSeries r k (fixOne + r * acc / fixOne / (k + 1))

/-- Squares a fixed-point number `k` times. -/
def fixSquare : Nat → Nat → Nat
  | 0, x => x
  | k + 1, x => fixSquare k (x * x / fixOne)

/-- e^r in fixed point for `r` in [0, ln 2]: the series at r / 1024, then ten squarings. -/
def fixExp (r : Nat) : Nat := fixSquare 10 (expSeries (r / 1024) 28 fixOne)

/-- `h * 2^k` for an `h` with 321 fraction bits. -/
def exactScaled (h : Nat) (k : Int) : ExactResult :=
  let t := k + 1074 - 321
  if 0 ≤ t then { neg := false, num := h * 2 ^ t.toNat, den := 1 }
  else { neg := false, num := h, den := 2 ^ (-t).toNat }

/-- `m * 2^k` for a fixed-point `m` that was rounded down: half a unit is added, so that the result is no tie and lies on
the right side of a Num that `m` hits. -/
def exactAbove (m : Nat) (k : Int) : ExactResult := exactScaled (2 * m + 1) k

/-- `2^k`. -/
def exactPower (k : Int) : ExactResult := exactScaled (2 * fixOne) k

/-- e^(l / 2^320), for an integer `l` of any sign, rounded down: the power of two split off, then the series. -/
def exactExpFix (l : Int) : ExactResult :=
  let k := l / (fixLn2 : Int)
  exactAbove (fixExp (l % (fixLn2 : Int)).toNat) k

/-- The value of a finite Num in fixed point, rounded down. -/
def toFix (x : F64) : Int := x.value * (fixOne : Int) / 2 ^ 1074

/-! ## EXP, POW2, POW10 -/

/-- e^x; exact at 0. Above 710 it is above every Num, below -746 it is nearest to 0. -/
def exactExp (x : F64) : ExactResult :=
  if 710 * 2 ^ 1074 < x.value then ExactResult.huge
  else if x.value < -(746 * 2 ^ 1074) then ExactResult.tiny
  else if x.isZero then exactPower 0
  else exactExpFix (toFix x)

/-- 2^x; exact at an integer. -/
def exactPow2 (x : F64) : ExactResult :=
  if 1024 * 2 ^ 1074 < x.value then ExactResult.huge
  else if x.value < -(1076 * 2 ^ 1074) then ExactResult.tiny
  else
    let k := x.value / 2 ^ 1074
    let f := (x.value % 2 ^ 1074).toNat
    if f = 0 then exactPower k
    else exactAbove (fixExp (f * fixOne / 2 ^ 1074 * fixLn2 / fixOne)) k

/-- 10^x; exact at an integer. -/
def exactPow10 (x : F64) : ExactResult :=
  if 309 * 2 ^ 1074 < x.value then ExactResult.huge
  else if x.value < -(325 * 2 ^ 1074) then ExactResult.tiny
  else
    let k := x.value / 2 ^ 1074
    if x.value % 2 ^ 1074 = 0 then
      if 0 ≤ k then { neg := false, num := 10 ^ k.toNat * 2 ^ 1074, den := 1 }
      else { neg := false, num := 2 ^ 1074, den := 10 ^ (-k).toNat }
    else exactExpFix (toFix x * (fixLn10 : Int) / (fixOne : Int))

/-- The reference EXP. -/
def refExp (x : F64) : F64 := if x.isNaN then F64.makeNaN 3 x x else (exactExp x).round

/-- The reference POW2. -/
def refPow2 (x : F64) : F64 := if x.isNaN then F64.makeNaN 4 x x else (exactPow2 x).round

/-- The reference POW10. -/
def refPow10 (x : F64) : F64 := if x.isNaN then F64.makeNaN 5 x x else (exactPow10 x).round

/-! ## LN -/

/-- Horner's scheme for atanh(z) / z = 1 + z^2 / 3 + z^4 / 5 + ..., from the term of z^(2 k - 2) down. -/
def atanhSeries (z2 : Nat) : Nat → Nat → Nat
  | 0, acc => acc
  | k + 1, acc => atanhSeries z2 k (fixOne / (2 * k + 1) + z2 * acc / fixOne)

/-- ln(m / 2^320) for a fixed-point `m` near 1: 2 atanh((m - 1) / (m + 1)). -/
def fixLn (m : Nat) : Int :=
  let num : Nat := if fixOne ≤ m then m - fixOne else fixOne - m
  let z := num * fixOne / (m + fixOne)
  let r := 2 * z * atanhSeries (z * z / fixOne) 70 0 / fixOne
  if fixOne ≤ m then (r : Int) else -(r : Int)

/-- ln x of a positive finite `x`, which is `m * 2^e` with `m` in [0.707, 1.415); exact at 1. -/
def exactLn (x : F64) : ExactResult :=
  if x = F64.one then { neg := false, num := 0, den := 1 }
  else
    let e : Nat := Nat.log2 x.mag
    let m := x.mag * fixOne / 2 ^ e
    let up : Bool := decide (14143 * fixOne < 10000 * m)
    let l : Int :=
      ((e : Int) - 1074 + (if up then 1 else 0)) * (fixLn2 : Int) + fixLn (if up then m / 2 else m)
    { neg := decide (l < 0), num := (2 * l.natAbs + 1) * 2 ^ 1074, den := 2 * fixOne }

/-- The reference LN. -/
def refLn (x : F64) : F64 :=
  if x.isNaN then F64.makeNaN 6 x x
  else if x.value ≤ 0 then Config.lnOutOfDomain x
  else if x.isInf then F64.infinity false
  else (exactLn x).round

end Sys2Proof.Machine
end

