-- ==== Sys2Proof/Machine/OpenFn.lean ====
section
/-! DEFINITION. The function parameters of the configuration (00_scope.md R7, R13, R14) and the derived
coefficient functions `lagCoef`, `decayMul`, `poleCoef`. A parameter at `.reference` is the spec's reference
function. At `.free n` it is the n-th member of an opaque family, held to what the spec lets a model assume of it:
where the opaque function keeps the contract its value stands, where it breaks it an admissible value does, so
exactly the admissible functions are covered (logs 9, 10, 11). Before them, the parameter ranges. -/

namespace Sys2Proof

/-! ## PARAM_MIN, PARAM_MAX (R7, 10_state.md R27) -/

/-- `PARAM_MIN`: BEND's is `-BEND_RANGE`. -/
def StaticParams.paramMin (p : StaticParams) : ParamSet := { p.paramMinTable with bend := p.bendRange.neg }

/-- `PARAM_MAX`: BEND's is `BEND_RANGE`. -/
def StaticParams.paramMax (p : StaticParams) : ParamSet := { p.paramMaxTable with bend := p.bendRange }

end Sys2Proof

namespace Sys2Proof.Machine

/-! ## EXP, POW2, POW10, LN: within one unit in the last place of the exact result (R13) -/

/-- The free function value `y` where R13 admits it beside the exact result `e`, else the correctly rounded one. -/
def withinUlp (e : ExactResult) (y : F64) : F64 := if e.admits y then y else e.round

/-- `EXP(x)` -/
def expF (p : StaticParams) (x : F64) : F64 :=
  match p.expFn with
  | .reference => refExp x
  | .free n => if x.isNaN then refExp x else withinUlp (exactExp x) (Config.freeExp n x)

/-- `POW2(x)` -/
def pow2F (p : StaticParams) (x : F64) : F64 :=
  match p.pow2Fn with
  | .reference => refPow2 x
  | .free n => if x.isNaN then refPow2 x else withinUlp (exactPow2 x) (Config.freePow2 n x)

/-- `POW10(x)` -/
def pow10F (p : StaticParams) (x : F64) : F64 :=
  match p.pow10Fn with
  | .reference => refPow10 x
  | .free n => if x.isNaN then refPow10 x else withinUlp (exactPow10 x) (Config.freePow10 n x)

/-- `LN(x)`; the tolerance speaks of a positive finite argument (logs 6, 8). -/
def lnF (p : StaticParams) (x : F64) : F64 :=
  match p.lnFn with
  | .reference => refLn x
  | .free n => if x.isFinite && F64.zero.lt x then withinUlp (exactLn x) (Config.freeLn n x) else refLn x

/-! ## Derived coefficient functions (R14) -/

/-- `lagCoef(tau_ms, r)` -/
def lagCoef (p : StaticParams) (tauMs r : F64) : F64 :=
  if tauMs.eq F64.zero then F64.one
  else F64.one.sub (expF p ((F64.ofNat 1000).neg.div (tauMs.mul r)))

/-- `decayMul(tau_ms, r)` -/
def decayMul (p : StaticParams) (tauMs r : F64) : F64 :=
  if tauMs.eq F64.zero then F64.zero
  else expF p ((F64.ofNat 1000).neg.div (tauMs.mul r))

/-- `poleCoef(fc, r)` = 1 - EXP(-2 * π * fc / r), evaluated left to right (log 17). At extreme rates it
rounds to 0 or 1, against the claim of 44_filter.md R259 that `G` is in (0, 1) (log 21). -/
def poleCoef (p : StaticParams) (fc r : F64) : F64 :=
  F64.one.sub (expF p ((((F64.ofNat 2).neg.mul F64.pi).mul fc).div r))

/-- A coefficient `c` of R14 as the pitch path, the envelopes and the filters use it. With the reference EXP it is `c`. Another
EXP may give a neighbour of 1 at an exponent that rounds to 0 (R13), and `c` a last place outside [0, 1]; the rules about
the values made with it exclude that (42_tick_osc.md R185, 43_envelopes.md R225, 44_filter.md R259, R269), and the end of the
range stands (DEDUCED, log 24). -/
def unitCoef (p : StaticParams) (c : F64) : F64 :=
  if p.expFn = .reference then c else c.clamp F64.zero F64.one

/-- A one-pole low-pass update, `s + c * (x - s)` (R14). -/
def onePole (c s x : F64) : F64 := s.add (c.mul (x.sub s))

/-! ## WAVE_A, WAVE_B (42_tick_osc.md R190, R192) -/

/-- The contract's domain: a phase in [0, 1) and an increment in [0, 0.5] (R190). -/
def waveDomain (phase inc : F64) : Bool :=
  F64.zero.le phase && phase.lt F64.one && F64.zero.le inc && inc.le (F64.one.div (F64.ofNat 2))

/-- The contract on a value: finite and in [-1, 1] (R190). -/
def inUnitRange (y : F64) : Bool := F64.one.neg.le y && y.le F64.one

/-- An opaque waveform value held to R190. -/
def waveFree (phase inc y : F64) : F64 :=
  if waveDomain phase inc && !inUnitRange y then F64.zero else y

/-- `WAVE_A`; the reference is the naive saw 2 p - 1 (R192). -/
def waveA (p : StaticParams) (phase inc : F64) : F64 :=
  match p.waveA with
  | .reference => ((F64.ofNat 2).mul phase).sub F64.one
  | .free n => waveFree phase inc (Config.freeWaveA n phase inc)

/-- `WAVE_B`; the reference is the naive square, 1 below 0.5 and -1 from there (R192). -/
def waveB (p : StaticParams) (phase inc : F64) : F64 :=
  match p.waveB with
  | .reference => if phase.lt (F64.one.div (F64.ofNat 2)) then F64.one else F64.one.neg
  | .free n => waveFree phase inc (Config.freeWaveB n phase inc)

/-! ## SHAPER (44_filter.md R266) -/

/-- `SHAPER`: finite to finite and 0 to 0; the reference is the identity. -/
def shaper (p : StaticParams) (x : F64) : F64 :=
  match p.shaper with
  | .reference => x
  | .free n =>
    let y := Config.freeShaper n x
    if (x.isFinite && !y.isFinite) || (x.isZero && !y.isZero) then x else y

/-! ## RES_SKEW (44_filter.md R264) -/

/-- The reference `RES_SKEW(q) = (1 - EXP(-3 q)) / (1 - EXP(-3))`, which maps 0 to 0 (R264). With the reference EXP the
formula does so by itself; of another EXP, whose EXP(0) need not be 1, this is DEDUCED (log 10). -/
def refResSkew (p : StaticParams) (q : F64) : F64 :=
  if q.isZero then F64.zero
  else (F64.one.sub (expF p ((F64.ofNat 3).neg.mul q))).div (F64.one.sub (expF p (F64.ofNat 3).neg))

/-- `0 ≤ x ≤ 1`. -/
def inUnit (x : F64) : Bool := F64.zero.le x && x.le F64.one

/-- The value `y` of a RES_SKEW at `q`, held to [0, 1] into [0, 1]. The reference function keeps that by itself with the
reference EXP, and with another one but for a last place above 1 (log 10). -/
def skewHeld (q y : F64) : F64 := if inUnit q && !inUnit y then q else y

/-- `RES_SKEW`. -/
def resSkewF (p : StaticParams) (q : F64) : F64 :=
  match p.resSkew with
  | .reference => skewHeld q (refResSkew p q)
  | .free n => skewHeld q (Config.freeResSkew n q)

/-! ## Filter coefficients (44_filter.md R259, R262) -/

/-- The exact `G`, `K`, `DL` of R259 at cutoff `fc`, resonance `res` in percent, drive `drv` in dB and rate `r`. -/
def exactGKD (p : StaticParams) (fc res drv r : F64) : FilterCoefs where
  g  := unitCoef p (poleCoef p fc r)
  k  := p.kScale.mul (resSkewF p (res.div (F64.ofNat 100)))
  dl := pow10F p (drv.div (F64.ofNat 20))

/-- `|y - x| ≤ COEF_TOL * |x|` on the exact values, both finite (R262). -/
def withinTol (tol x y : F64) : Bool :=
  x.isFinite && y.isFinite &&
    decide (((y.value - x.value).natAbs : Int) * 2 ^ 1074 ≤ tol.value * (x.value.natAbs : Int))

/-- The contract on approximate coefficients `y` whose exact values are `x` (R262). -/
def coefContract (p : StaticParams) (x y : FilterCoefs) : Bool :=
  withinTol p.coefTol x.g y.g && withinTol p.coefTol x.k y.k && withinTol p.coefTol x.dl y.dl &&
    F64.zero.lt y.g && y.g.lt F64.one && F64.zero.le y.k && y.k.le p.kScale

/-- The arguments the contract speaks of: finite and in range (R262). -/
def coefDomain (p : StaticParams) (fc res drv r : F64) : Bool :=
  fc.isFinite && F64.zero.lt fc && r.isFinite && F64.zero.lt r &&
    p.paramMin.resonance.le res && res.le p.paramMax.resonance &&
    p.paramMin.drive.le drv && drv.le p.paramMax.drive

/-- `COEF_APPROX`; the reference equals the exact functions (R262). DEDUCED, log 11: at extreme accepted rates the exact
`G` is not in (0, 1), so that R262's closeness and its `G` in (0, 1) may exclude each other (as R259's claim that `G` is in
(0, 1) then fails); where no value the implementation gives keeps the contract, the exact value stands. -/
def coefApprox (p : StaticParams) (fc res drv r : F64) : FilterCoefs :=
  match p.coefApprox with
  | .reference => exactGKD p fc res drv r
  | .free n =>
    let x := exactGKD p fc res drv r
    let y := Config.freeCoefApprox n fc res drv r
    if coefDomain p fc res drv r && !coefContract p x y then x else y

/-! ## AUX_COEF (45_morph_chain.md R300) -/

/-- The reference coefficients: the identity section. -/
def identityCoefs : BiquadCoefs where
  b0 := F64.one
  b1 := F64.zero
  b2 := F64.zero
  a1 := F64.zero
  a2 := F64.zero

/-- All five coefficients finite. -/
def coefsFinite (c : BiquadCoefs) : Bool :=
  c.b0.isFinite && c.b1.isFinite && c.b2.isFinite && c.a1.isFinite && c.a2.isFinite

/-- `AUX_COEF[STAGE](i, r)`: finite coefficients for every finite positive rate. -/
def auxCoef (choice : FnChoice) (stage : AuxStage) (i : Nat) (r : F64) : BiquadCoefs :=
  match choice with
  | .reference => identityCoefs
  | .free n =>
    let y := Config.freeAuxCoef n stage i r
    if (r.isFinite && F64.zero.lt r) && !coefsFinite y then identityCoefs else y

end Sys2Proof.Machine
end

