-- ==== Sys2Proof/Syntax.lean ====
section
/-! DEFINITION. The command set: one constructor per row of spec/opcode_table.json (30_encoding.md R85).
Operand fields are unsigned integers (R83), so they are `Nat`; `WellFormed` bounds them to their fields.
A command that reads its data word carries it (R80, R84); the others ignore it and carry none. -/

namespace Sys2Proof

/-- The pair a command is on the port (30_encoding.md R80). -/
structure Command where
  cmd  : CmdWord
  data : DataWord
deriving DecidableEq, Repr, Inhabited

/-- The fourteen commands of 30_encoding.md R85. -/
inductive Instr where
  /-- NOP, format Z (40_control.md R110). -/
  | nop
  /-- SET_RATE, format Z; the data word is the sample rate in Hz (40_control.md R111). -/
  | setRate (data : DataWord)
  /-- WRITE_PARAM, format A; the data word is the requested value (40_control.md R114). -/
  | writeParam (addr : Nat) (data : DataWord)
  /-- WRITE_CONFIG, format A; the data word is the value (40_control.md R116). -/
  | writeConfig (addr : Nat) (data : DataWord)
  /-- BEGIN_BLOCK, format L; `len` output samples (40_control.md R118). -/
  | beginBlock (len : Nat)
  /-- TRIGGER, format NV (41_note.md R152). -/
  | trigger (note vel : Nat)
  /-- SLIDE, format N (41_note.md R156). -/
  | slide (note : Nat)
  /-- RELEASE, format Z (41_note.md R159). -/
  | release
  /-- ALL_OFF, format Z (41_note.md R162). -/
  | allOff
  /-- TICK, format Z; the data word is the external input sample (42_tick_osc.md R180). -/
  | tick (data : DataWord)
  /-- READ_STATUS, format Z (40_control.md R130). -/
  | readStatus
  /-- READ_PARAM, format AS; `sel` chooses the requested value (40_control.md R132). -/
  | readParam (sel : Bool) (addr : Nat)
  /-- READ_CONFIG, format A (40_control.md R134). -/
  | readConfig (addr : Nat)
  /-- CLEAR_STATUS, format Z (40_control.md R131). -/
  | clearStatus
deriving DecidableEq, Repr

/-- The opcode of a command, `cmd[31:28]` (30_encoding.md R81, R85). -/
def Instr.opcode : Instr → Nat
  | .nop => 0x0
  | .setRate _ => 0x1
  | .writeParam _ _ => 0x2
  | .writeConfig _ _ => 0x3
  | .beginBlock _ => 0x4
  | .trigger _ _ => 0x5
  | .slide _ => 0x6
  | .release => 0x7
  | .allOff => 0x8
  | .tick _ => 0x9
  | .readStatus => 0xA
  | .readParam _ _ => 0xB
  | .readConfig _ => 0xC
  | .clearStatus => 0xD

/-- The command's kind is "responding" (30_encoding.md R80): TICK, READ_STATUS, READ_PARAM, READ_CONFIG. -/
def Instr.responds : Instr → Bool
  | .nop => false
  | .setRate _ => false
  | .writeParam _ _ => false
  | .writeConfig _ _ => false
  | .beginBlock _ => false
  | .trigger _ _ => false
  | .slide _ => false
  | .release => false
  | .allOff => false
  | .tick _ => true
  | .readStatus => true
  | .readParam _ _ => true
  | .readConfig _ => true
  | .clearStatus => false

end Sys2Proof
end

