-- ==== Sys2Proof/Machine/State.lean ====
section
/-! DEFINITION. The state of the block (10_state.md R20 to R39), the reasons a step could stop, and the state
after reset (70_reset_and_hazards.md R361). Plain data. Three fields are the model's own, not the spec's state:
`sta` (log 3), `port` (log 1), `responses` (log 2). -/

namespace Sys2Proof.Machine

/-- Why a step could fault: no reason. The block takes no traps; a detected error is a sticky bit of STATUS and a
command that does nothing else (60_exceptions.md R337, R331), which is a NEXT state. Nobody raises a fault; safe: there
is none to hide behind (log 16). -/
inductive Fault where
deriving DecidableEq, Repr

/-- Why a step could be refused. -/
inductive Refusal where
  /-- An instruction without a meaning, raised by `exec`'s arm alone; no arm does, every instruction is modelled. Safe:
  the machine stops where the hardware goes on. -/
  | notModelled (mnemonic : String)
deriving DecidableEq, Repr

/-- The sticky error bits of STATUS (10_state.md R21, 60_exceptions.md R330). -/
structure ErrBits where
  rate  : Bool
  seq   : Bool
  cmd   : Bool
  addr  : Bool
  value : Bool
deriving DecidableEq, Repr

/-- The error codes (60_exceptions.md R330). -/
inductive ErrCode where
  | rate | seq | cmd | addr | value
deriving DecidableEq, Repr

/-- `NOTE_STATE` (10_state.md R31). -/
inductive NoteState where
  | silent | sounding | sliding
deriving DecidableEq, Repr

/-- `M_STAGE` (10_state.md R33). -/
inductive MainStage where
  | idle | ramp | decay
deriving DecidableEq, Repr

/-- `A_STAGE` (10_state.md R34). -/
inductive AmpStage where
  | idle | attack | decay | sustain | release
deriving DecidableEq, Repr

/-- A filter instance (10_state.md R36). -/
structure FilterInst where
  mode    : FilterMode
  y1      : F64
  y2      : F64
  y3      : F64
  y4      : F64
  fbs     : F64
  g       : F64
  k       : F64
  dl      : F64
  h       : F64
  cut     : F64
  resRaw  : F64
  resSkew : F64
  driveDb : F64
deriving DecidableEq, Repr

/-- A biquad section of an auxiliary stage (10_state.md R38). -/
structure Biquad where
  x1 : F64
  x2 : F64
  z1 : F64
  z2 : F64
  coefs : BiquadCoefs
deriving DecidableEq, Repr

/-- The state of the block. -/
structure State where
  /-- The static parameters: configuration carried beside the state, changed by nothing (log 3). -/
  sta : StaticParams
  /-- The commands the host has presented and the block has not yet executed (log 1). -/
  port : List Command
  /-- The responses emitted so far, oldest first (log 2). -/
  responses : List DataWord
  /-- STATUS bits 20:16 (R21) -/
  err : ErrBits
  /-- `FS` (R23) -/
  fs : F64
  /-- `RATE_VALID` (R23) -/
  rateValid : Bool
  /-- `IN_BLOCK` (R25) -/
  inBlock : Bool
  /-- `BLOCK_LEN` (R25) -/
  blockLen : BitVec 16
  /-- `TICKS_DONE` (R25) -/
  ticksDone : BitVec 16
  /-- `P.c`, the committed values (R26) -/
  pC : ParamSet
  /-- `P.q`, the requested values (R26) -/
  pQ : ParamSet
  /-- `P.e`, the block-end values (R26) -/
  pE : ParamSet
  /-- `CFG` (R29, R30) -/
  cfg : ConfigSet
  /-- `NOTE` (R31) -/
  note : BitVec 7
  /-- `ACCENT` (R31) -/
  accent : Bool
  /-- `NOTE_STATE` (R31) -/
  noteState : NoteState
  /-- `SLIDE_F` (R32) -/
  slideF : F64
  /-- `PHASE` (R32) -/
  phase : F64
  /-- `INC` (R32) -/
  inc : F64
  /-- `M_STAGE` (R33) -/
  mStage : MainStage
  /-- `M_LEVEL` (R33) -/
  mLevel : F64
  /-- `PN` (R33) -/
  pn : F64
  /-- `PA` (R33) -/
  pa : F64
  /-- `A_STAGE` (R34) -/
  aStage : AmpStage
  /-- `A_LEVEL` (R34) -/
  aLevel : F64
  /-- `DK` (R35) -/
  dk : F64
  /-- `F[A]` (R36) -/
  fA : FilterInst
  /-- `F[B]` (R36) -/
  fB : FilterInst
  /-- PRE_HPF (R38) -/
  preHpf : List Biquad
  /-- AA_LPF (R38) -/
  aaLpf : List Biquad
  /-- ALLPASS (R38) -/
  allpass : List Biquad
  /-- POST_HPF (R38) -/
  postHpf : List Biquad
  /-- NOTCH (R38) -/
  notch : List Biquad
  /-- `IDLE` (R39) -/
  idle : Bool
deriving DecidableEq, Repr

/-! ## Reset (70_reset_and_hazards.md R361) -/

/-- A filter instance after reset, in a mode (R36, R361). -/
def FilterInst.reset (p : StaticParams) (mode : FilterMode) : FilterInst where
  mode    := mode
  y1      := F64.zero
  y2      := F64.zero
  y3      := F64.zero
  y4      := F64.zero
  fbs     := F64.zero
  g       := F64.zero
  k       := F64.zero
  dl      := F64.zero
  h       := F64.zero
  cut     := p.paramReset.cutoff
  resRaw  := p.paramReset.resonance
  resSkew := resSkewF p (p.paramReset.resonance.div (F64.ofNat 100))
  driveDb := p.paramReset.drive

/-- A biquad section after reset: histories and coefficients 0.0 (R38, R361). -/
def Biquad.reset : Biquad where
  x1 := F64.zero
  x2 := F64.zero
  z1 := F64.zero
  z2 := F64.zero
  coefs := { b0 := F64.zero, b1 := F64.zero, b2 := F64.zero, a1 := F64.zero, a2 := F64.zero }

/-- A block with static parameters `p`, right after reset, no command presented (R361). -/
def State.resetWith (p : StaticParams) : State where
  sta       := p
  port      := []
  responses := []
  err       := { rate := false, seq := false, cmd := false, addr := false, value := false }
  fs        := F64.zero
  rateValid := false
  inBlock   := false
  blockLen  := 0
  ticksDone := 0
  pC        := p.paramReset
  pQ        := p.paramReset
  pE        := p.paramReset
  cfg       := p.configReset
  note      := 60
  accent    := false
  noteState := .silent
  slideF    := F64.zero
  phase     := F64.zero
  inc       := F64.zero
  mStage    := .idle
  mLevel    := F64.zero
  pn        := F64.zero
  pa        := F64.zero
  aStage    := .idle
  aLevel    := F64.zero
  dk        := F64.zero
  fA        := FilterInst.reset p .ladder
  fB        := FilterInst.reset p p.morphBMode
  preHpf    := List.replicate p.preHpf.sections Biquad.reset
  aaLpf     := List.replicate p.aaLpf.sections Biquad.reset
  allpass   := List.replicate p.allpass.sections Biquad.reset
  postHpf   := List.replicate p.postHpf.sections Biquad.reset
  notch     := List.replicate p.notch.sections Biquad.reset
  idle      := true

/-- The machine right after reset, in the reference configuration (R361, 00_scope.md R7). -/
def State.reset : State := State.resetWith Config.REFCFG

end Sys2Proof.Machine
end

