-- ==== Sys2Proof/Machine/Flags.lean ====
section
/-! DEFINITION. The STATUS word (10_state.md R21, R22, R37): a view of the state. Bits not listed read as 0. -/

namespace Sys2Proof.Machine

/-- The NOTE_STATE code, STATUS bits 3:2. -/
def NoteState.code : NoteState → BitVec 2
  | .silent => 0
  | .sounding => 1
  | .sliding => 2

/-- The AMP_STAGE code, STATUS bits 8:6. -/
def AmpStage.code : AmpStage → BitVec 3
  | .idle => 0
  | .attack => 1
  | .decay => 2
  | .sustain => 3
  | .release => 4

/-- The MAIN_STAGE code, STATUS bits 10:9. -/
def MainStage.code : MainStage → BitVec 2
  | .idle => 0
  | .ramp => 1
  | .decay => 2

/-- A_HIGH: filter A's mode is not LADDER (R37). -/
def aHigh (s : State) : Bool := decide (s.fA.mode ≠ .ladder)

/-- TICKS_REMAINING = BLOCK_LEN - TICKS_DONE (R21). -/
def ticksRemaining (s : State) : BitVec 16 := s.blockLen - s.ticksDone

/-- The STATUS word, its fields from bit 63 down to bit 0 (R21). -/
def statusWord (s : State) : DataWord :=
  0#16                          -- 63:48
    ++ ticksRemaining s         -- 47:32
    ++ 0#1                      -- 31
    ++ s.note                   -- 30:24
    ++ 0#3                      -- 23:21
    ++ BitVec.ofBool s.err.value  -- 20
    ++ BitVec.ofBool s.err.addr   -- 19
    ++ BitVec.ofBool s.err.cmd    -- 18
    ++ BitVec.ofBool s.err.seq    -- 17
    ++ BitVec.ofBool s.err.rate   -- 16
    ++ 0#4                      -- 15:12
    ++ BitVec.ofBool (aHigh s)  -- 11
    ++ MainStage.code s.mStage  -- 10:9
    ++ AmpStage.code s.aStage   -- 8:6
    ++ BitVec.ofBool s.inBlock  -- 5
    ++ BitVec.ofBool s.accent   -- 4
    ++ NoteState.code s.noteState  -- 3:2
    ++ BitVec.ofBool s.idle     -- 1
    ++ BitVec.ofBool s.rateValid   -- 0

end Sys2Proof.Machine
end

