-- ==== Sys2Proof/Machine/Operands.lean ====
section
/-! DEFINITION. Operands: which register an address names (20_memory.md R60, R61; 10_state.md R27, R30), the
ranges of the configuration registers, the reading of a data word (30_encoding.md R84), and the value a parameter takes
in a TICK (40_control.md R123). -/

namespace Sys2Proof.Machine

/-! ## Register addresses -/

/-- The parameter register at an address; none above 10 (R27, R61). -/
def paramAt : Nat → Option ParamId
  | 0 => some .wave
  | 1 => some .cutoff
  | 2 => some .resonance
  | 3 => some .envmod
  | 4 => some .decay
  | 5 => some .accent
  | 6 => some .volume
  | 7 => some .morph
  | 8 => some .drive
  | 9 => some .bend
  | 10 => some .extmix
  | _ => none

/-- The configuration register at an address; none above 4 (R30, R61). -/
def configAt : Nat → Option ConfigId
  | 0 => some .tuning
  | 1 => some .slideTime
  | 2 => some .normalPathTau
  | 3 => some .accentPathTau
  | 4 => some .morphHiMode
  | _ => none

end Sys2Proof.Machine

namespace Sys2Proof

/-- The parameter of a set. -/
def ParamSet.get (p : ParamSet) : ParamId → F64
  | .wave => p.wave
  | .cutoff => p.cutoff
  | .resonance => p.resonance
  | .envmod => p.envmod
  | .decay => p.decay
  | .accent => p.accent
  | .volume => p.volume
  | .morph => p.morph
  | .drive => p.drive
  | .bend => p.bend
  | .extmix => p.extmix

/-- The set with one parameter changed. -/
def ParamSet.set (p : ParamSet) (j : ParamId) (x : F64) : ParamSet :=
  match j with
  | .wave => { p with wave := x }
  | .cutoff => { p with cutoff := x }
  | .resonance => { p with resonance := x }
  | .envmod => { p with envmod := x }
  | .decay => { p with decay := x }
  | .accent => { p with accent := x }
  | .volume => { p with volume := x }
  | .morph => { p with morph := x }
  | .drive => { p with drive := x }
  | .bend => { p with bend := x }
  | .extmix => { p with extmix := x }

/-- The set whose parameter `j` is `f j`. -/
def ParamSet.ofFn (f : ParamId → F64) : ParamSet where
  wave      := f .wave
  cutoff    := f .cutoff
  resonance := f .resonance
  envmod    := f .envmod
  decay     := f .decay
  accent    := f .accent
  volume    := f .volume
  morph     := f .morph
  drive     := f .drive
  bend      := f .bend
  extmix    := f .extmix

/-- The configuration register of a set. -/
def ConfigSet.get (c : ConfigSet) : ConfigId → F64
  | .tuning => c.tuning
  | .slideTime => c.slideTime
  | .normalPathTau => c.normalPathTau
  | .accentPathTau => c.accentPathTau
  | .morphHiMode => c.morphHiMode

/-- The set with one configuration register changed. -/
def ConfigSet.set (c : ConfigSet) (a : ConfigId) (x : F64) : ConfigSet :=
  match a with
  | .tuning => { c with tuning := x }
  | .slideTime => { c with slideTime := x }
  | .normalPathTau => { c with normalPathTau := x }
  | .accentPathTau => { c with accentPathTau := x }
  | .morphHiMode => { c with morphHiMode := x }

end Sys2Proof

namespace Sys2Proof.Machine

/-! ## Legal values -/

/-- `clamp(x, PARAM_MIN[j], PARAM_MAX[j])` (40_control.md R114). -/
def clampParam (p : StaticParams) (j : ParamId) (x : F64) : F64 :=
  x.clamp (p.paramMin.get j) (p.paramMax.get j)

/-- `CFG_MIN[a]` (10_state.md R30). MORPH_HI_MODE is not clamped; its entry is its smaller legal value. -/
def configMin : ConfigId → F64
  | .tuning => F64.ofNat 100
  | .slideTime => F64.zero
  | .normalPathTau => F64.zero
  | .accentPathTau => F64.zero
  | .morphHiMode => F64.ofNat 6

/-- `CFG_MAX[a]` (10_state.md R30). MORPH_HI_MODE is not clamped; its entry is its larger legal value. -/
def configMax : ConfigId → F64
  | .tuning => F64.ofNat 1000
  | .slideTime => F64.ofNat 2000
  | .normalPathTau => F64.ofNat 1000
  | .accentPathTau => F64.ofNat 1000
  | .morphHiMode => F64.ofNat 8

/-- The legal values of MORPH_HI_MODE: exactly 6.0 (HP12) or 8.0 (HP24) (R30). -/
def legalHiMode (x : F64) : Bool := x.eq (F64.ofNat 6) || x.eq (F64.ofNat 8)

/-- What WRITE_CONFIG stores for a finite value: the clamped value, or for MORPH_HI_MODE the value itself if it is
legal; none where the value is rejected (40_control.md R116). -/
def configValue (a : ConfigId) (x : F64) : Option F64 :=
  match a with
  | .morphHiMode => if legalHiMode x then some x else none
  | .tuning => some (x.clamp (configMin .tuning) (configMax .tuning))
  | .slideTime => some (x.clamp (configMin .slideTime) (configMax .slideTime))
  | .normalPathTau => some (x.clamp (configMin .normalPathTau) (configMax .normalPathTau))
  | .accentPathTau => some (x.clamp (configMin .accentPathTau) (configMax .accentPathTau))

/-- A rate SET_RATE accepts: finite and above 0 (40_control.md R111). -/
def legalRate (x : F64) : Bool := x.isFinite && F64.zero.lt x

/-- The external input sample of a TICK: 0.0 where the data word is not finite (42_tick_osc.md R181). -/
def inputSample (x : F64) : F64 := if x.isFinite then x else F64.zero

/-! ## The parameter smoother (40_control.md R121 to R126) -/

/-- The index of the TICK about to run, `i = TICKS_DONE + 1` (R123). -/
def tickIndex (s : State) : Nat := s.ticksDone.toNat + 1

/-- A parameter's value in the TICK of index `i` of a block of `n` (R123). DEDUCED, log 21: rounding can make the first value
equal to an end, against the strictness R125 derives. -/
def smoothedValue (c e : F64) (i n : Nat) : F64 :=
  if i = n then e else c.add (((e.sub c).mul (F64.ofNat i)).div (F64.ofNat n))

/-- `P.v` of the TICK about to run (R123). -/
def smoothed (s : State) : ParamSet :=
  ParamSet.ofFn fun j =>
    smoothedValue (s.pC.get j) (s.pE.get j) (tickIndex s) s.blockLen.toNat

end Sys2Proof.Machine
end

