-- ==== Sys2Proof/Machine/Ops.lean ====
section
/-! DEFINITION. The named operations over the registers that every command shares: setting an error bit, raising
an error (the block's whole exception mechanism, 60_exceptions.md R331, R337), responding, the sequencing checks,
and the reset event. The block has no memory (20_memory.md R62). -/

namespace Sys2Proof.Machine

/-! ## Errors (60_exceptions.md) -/

/-- The error bits with bit `e` set; a bit already set stays set (10_state.md R22). -/
def ErrBits.set (b : ErrBits) : ErrCode → ErrBits
  | .rate => { b with rate := true }
  | .seq => { b with seq := true }
  | .cmd => { b with cmd := true }
  | .addr => { b with addr := true }
  | .value => { b with value := true }

/-- Error bit `e`. -/
def ErrBits.get (b : ErrBits) : ErrCode → Bool
  | .rate => b.rate
  | .seq => b.seq
  | .cmd => b.cmd
  | .addr => b.addr
  | .value => b.value

/-- No error bit set (40_control.md R131). -/
def ErrBits.clear : ErrBits :=
  { rate := false, seq := false, cmd := false, addr := false, value := false }

/-- Sets the STATUS bit of `e` and nothing else. -/
def setErr (e : ErrCode) (s : State) : State := { s with err := s.err.set e }

/-- `respond(v)`: emits a response word (00_scope.md R11). -/
def respond (v : DataWord) (s : State) : State := { s with responses := s.responses ++ [v] }

/-- `raise e` (R331), the one shared operation of taking an error: it sets the bit and ends the command; a responding
command emits the word 0 (30_encoding.md R88). There is no trap, so no saved state and no return (R337, R338). -/
def raise (e : ErrCode) (responds : Bool) (s : State) : State :=
  if responds then respond 0 (setErr e s) else setErr e s

/-! ## Sequencing checks (40_control.md R119) -/

/-- Rendering of the open block has started, which forbids note commands (41_note.md R150). -/
def blockStarted (s : State) : Bool := s.inBlock && decide (s.ticksDone ≠ 0)

/-! ## Rates (10_state.md R24) -/

/-- The filter rate of a base rate, `OS * x`. -/
def osRate (p : StaticParams) (x : F64) : F64 := (F64.ofNat p.os).mul x

/-- The filter rate `fs_f = OS * FS`. -/
def filterRate (s : State) : F64 := osRate s.sta s.fs

/-! ## Block sequencer (40_control.md R126) -/

/-- The end of a TICK: the last one of its block commits the parameters and closes the block, every other one
counts (R126). -/
def blockAdvance (s : State) : State :=
  if tickIndex s = s.blockLen.toNat then
    { s with pC := s.pE, inBlock := false, blockLen := 0, ticksDone := 0 }
  else { s with ticksDone := s.ticksDone + 1 }

/-! ## The reset event (70_reset_and_hazards.md R360) -/

/-- Reset of a running block: every piece of the spec's state takes its reset value, an open block is discarded
without committing; the static parameters, the commands the host has yet to give and the responses it has had are
outside that state (log 18). -/
def resetEvent (s : State) : State :=
  { State.resetWith s.sta with port := s.port, responses := s.responses }

end Sys2Proof.Machine
end

