-- ==== Sys2Proof/Machine/Envelope.lean ====
section
/-! DEFINITION. The envelopes, the cutoff modulation and the declick (43_envelopes.md R210 to R229). -/

namespace Sys2Proof.Machine

/-! ## Main envelope -/

/-- The decay time constant `tau_d` of a TICK (R212). -/
def mainDecayMs (v : ParamSet) (s : State) : F64 :=
  if s.accent then s.sta.accentDecayMs else v.decay

/-- A linear ramp toward 1: one TICK of `ms` milliseconds at rate `r`, or 1 at once for 0 ms (R213, R221). -/
def rampTo1 (ms r level : F64) : F64 :=
  if ms.eq F64.zero then F64.one
  else F64.one.min (level.add ((F64.ofNat 1000).div (ms.mul r)))

/-- The main envelope step with decay time constant `tauD` (R213). -/
def mainEnvStep (tauD : F64) (s : State) : State :=
  match s.mStage with
  | .ramp =>
    let l := rampTo1 s.sta.mainRampMs s.fs s.mLevel
    { s with mLevel := l, mStage := if F64.one.le l then .decay else .ramp }
  | .decay =>
    let l := s.mLevel.mul (unitCoef s.sta (decayMul s.sta tauD s.fs))
    if l.le s.sta.envEps then { s with mLevel := F64.zero, mStage := .idle } else { s with mLevel := l }
  | .idle => s

/-! ## Modulation paths and normalizers -/

/-- The two paths follow the main envelope's level (R214). DEDUCED, log 21: with a time constant of 0 the rounded sum can
miss the level by the rounding of the difference, against R214's corner case; the model follows the formula. -/
def pathStep (s : State) : State :=
  { s with
    pn := onePole (unitCoef s.sta (lagCoef s.sta s.cfg.normalPathTau s.fs)) s.pn s.mLevel
    pa := onePole (unitCoef s.sta (lagCoef s.sta s.cfg.accentPathTau s.fs)) s.pa s.mLevel }

/-- What a NORM without a value of the formula is at most (log 6): where `r` rounds to 0, EXP(1), the NORM of `r = 1`, as
the peak that R215 names makes NORM rise with `r`; else 2^512, with which the products of R217 stay finite (R225). -/
def normBound (p : StaticParams) (r : F64) : F64 := if r.isZero then expF p F64.one else F64.ofNat (2 ^ 512)

/-- NORM where `r` rounds to no positive finite Num, so that R215's formula has no value: a free value, at least 1 as R215
says of every NORM, and at most `hi` (DESIGN CHOICE, log 6). -/
def normFree (hi tauP tauD : F64) : F64 :=
  let y := Config.freeNorm tauP tauD
  if F64.one.le y && y.le hi then y else F64.one

/-- `NORM(tau_p, tau_d)` (R215). Its `NORM ≥ 1 always` is imposed by the `max`, which leaves every value of the formula at
or above 1 as it is (DEDUCED, log 6). -/
def normalizer (p : StaticParams) (tauP tauD : F64) : F64 :=
  if tauP.eq F64.zero then F64.one
  else if tauP.eq tauD then expF p F64.one
  else
    let r := tauP.div tauD
    if F64.zero.lt r && r.isFinite then
      (expF p (((r.div (F64.one.sub r)).neg).mul (lnF p r))).max F64.one
    else normFree (normBound p r) tauP tauD

/-! ## Cutoff modulation -/

/-- The modulation depth in octaves, `oct` (R217). -/
def modOctaves (v : ParamSet) (s : State) : F64 :=
  let tauD := mainDecayMs v s
  let nn := normalizer s.sta s.cfg.normalPathTau tauD
  let na := normalizer s.sta s.cfg.accentPathTau tauD
  let normal := (((v.envmod.div (F64.ofNat 100)).mul s.sta.envmodOct).mul nn).mul s.pn
  let accent :=
    if s.accent then (((v.accent.div (F64.ofNat 100)).mul s.sta.accentOct).mul na).mul s.pa else F64.zero
  normal.add accent

/-- The instantaneous cutoff `fc` at depth `oct` (R218). -/
def cutoffAt (v : ParamSet) (oct : F64) (s : State) : F64 :=
  (v.cutoff.mul (pow2F s.sta oct)).clamp s.sta.fcMin
    ((s.sta.fcMaxRatio.mul (F64.ofNat s.sta.os)).mul s.fs)

/-! ## Amplitude envelope -/

/-- The amplitude envelope step (R221). -/
def ampEnvStep (s : State) : State :=
  match s.aStage with
  | .attack =>
    let l := rampTo1 s.sta.ampAttackMs s.fs s.aLevel
    { s with aLevel := l, aStage := if F64.one.le l then .decay else .attack }
  | .decay =>
    let sus := s.sta.ampSustain
    let l := sus.add ((s.aLevel.sub sus).mul (unitCoef s.sta (decayMul s.sta s.sta.ampDecayMs s.fs)))
    if (l.sub sus).le s.sta.envEps then { s with aLevel := sus, aStage := .sustain } else { s with aLevel := l }
  | .sustain => { s with aLevel := s.sta.ampSustain }
  | .release =>
    let l := s.aLevel.mul (unitCoef s.sta (decayMul s.sta s.sta.ampReleaseMs s.fs))
    if l.le s.sta.envEps then { s with aLevel := F64.zero, aStage := .idle } else { s with aLevel := l }
  | .idle => s

/-! ## Accent contribution and declick -/

/-- The raw amplitude `a_raw` (R227). -/
def rawAmp (v : ParamSet) (s : State) : F64 :=
  let w := if s.accent then s.sta.ampAccAmt.mul (v.accent.div (F64.ofNat 100)) else s.sta.ampNormAmt
  s.aLevel.add (w.mul s.mLevel)

/-- The declick low-pass, one step toward `aRaw` (R228). DEDUCED, log 21: R225 says DK stays between its previous value
and `aRaw`; where the coefficient is 1 or close to it the rounded sum `DK + (aRaw - DK)` can pass `aRaw` in its last
place, and the model follows R228's formula. -/
def declickStep (aRaw : F64) (s : State) : State :=
  { s with dk := onePole (unitCoef s.sta (poleCoef s.sta s.sta.declickFc s.fs)) s.dk aRaw }

/-! ## The envelope step -/

/-- `envStep(v)`: the sub-steps in the order of R229, and the cutoff `fc` and amplitude `amp` it returns. -/
def envStep (v : ParamSet) (s : State) : (F64 × F64) × State :=
  let s1 := pathStep (mainEnvStep (mainDecayMs v s) s)
  let fc := cutoffAt v (modOctaves v s1) s1
  let s2 := ampEnvStep s1
  let s3 := declickStep (rawAmp v s2) s2
  ((fc, s3.dk), s3)

end Sys2Proof.Machine
end

