-- ==== Sys2Proof/Machine/Filter.lean ====
section
/-! DEFINITION. One filter instance: mode change, coefficient derivations, step (44_filter.md R250 to R273). -/

namespace Sys2Proof.Machine

/-! ## Modes -/

/-- The fifteen modes in code order (R254). -/
def allModes : List FilterMode :=
  [.flat, .lp6, .lp12, .lp18, .lp24, .hp6, .hp12, .hp18, .hp24, .bp12_12, .bp6_18, .bp18_6, .bp6_12, .bp12_6, .ladder]

/-- The mode whose code a Num is exactly; MORPH_HI_MODE holds a code as a Num (10_state.md R30). -/
def modeOfNum (x : F64) : Option FilterMode := allModes.find? fun m => x.eq (F64.ofNat m.code)

/-- `MODE_TABLE[m]` and `MODE_GAIN[m]` (R255, R256); a table shorter than fifteen rows is outside the parameter's
range (log 13). -/
def modeRow (p : StaticParams) (m : FilterMode) : ModeRow :=
  (p.modeTable[m.code]?).getD { c0 := F64.zero, c1 := F64.zero, c2 := F64.zero, c3 := F64.zero, c4 := F64.zero, gain := F64.zero }

/-- `setMode(F, m)`: a change of mode clears the delay states, a call with the current mode changes nothing
(R257). -/
def setMode (m : FilterMode) (f : FilterInst) : FilterInst :=
  if m = f.mode then f
  else { f with mode := m, y1 := F64.zero, y2 := F64.zero, y3 := F64.zero, y4 := F64.zero, fbs := F64.zero }

/-! ## Coefficients -/

/-- The coefficient `H` of the feedback high-pass (R259): `poleCoef(FB_HPF_FC, r)`, and 0 at FB_HPF_FC 0. With the reference
EXP the latter is `poleCoef(0, r)` itself; of another EXP it is R259's corner case that says so (DEDUCED, log 24). -/
def feedbackCoef (p : StaticParams) (r : F64) : F64 :=
  if p.fbHpfFc.isZero then F64.zero else unitCoef p (poleCoef p p.fbHpfFc r)

/-- `exactCoefs(F, r)` (R260): from the stored inputs. -/
def exactCoefs (p : StaticParams) (r : F64) (f : FilterInst) : FilterInst :=
  let c := exactGKD p f.cut f.resRaw f.driveDb r
  { f with
    resSkew := resSkewF p (f.resRaw.div (F64.ofNat 100))
    g := c.g
    k := c.k
    dl := c.dl
    h := feedbackCoef p r }

/-- `setParams(F, fc, res, drv, r)` (R261): recomputes only when an input changed. -/
def setParams (p : StaticParams) (fc res drv r : F64) (f : FilterInst) : FilterInst :=
  if !fc.eq f.cut || !res.eq f.resRaw || !drv.eq f.driveDb then
    let c := coefApprox p fc res drv r
    { f with
      cut := fc
      resRaw := res
      driveDb := drv
      resSkew := resSkewF p (res.div (F64.ofNat 100))
      g := c.g
      k := c.k
      dl := c.dl }
  else f

/-! ## Step -/

/-- The core input `u` of a step on input `x` (R265): drive, less the high-passed feedback, shaped. DEDUCED, log 21:
`DL * x` of a finite `x` near the largest Num can overflow, and the pole mix then makes a NaN, against 45_morph_chain.md
R304; the model follows the formula. -/
def coreInput (p : StaticParams) (f : FilterInst) (x : F64) : F64 :=
  shaper p ((f.dl.mul x).sub (f.k.mul (f.y4.sub f.fbs)))

/-- The instance after a step whose core input is `u` (R265): the feedback low-pass reads the old `Y4`, each section
the new output of the one before it. The bound of R269 holds up to rounding and overflow (log 21). -/
def coreStep (f : FilterInst) (u : F64) : FilterInst :=
  let y1 := onePole f.g f.y1 u
  let y2 := onePole f.g f.y2 y1
  let y3 := onePole f.g f.y3 y2
  let y4 := onePole f.g f.y4 y3
  { f with fbs := onePole f.h f.fbs f.y4, y1 := y1, y2 := y2, y3 := y3, y4 := y4 }

/-- The pole mix of `u` and the section outputs, evaluated left to right (R265). -/
def poleMix (row : ModeRow) (u : F64) (f : FilterInst) : F64 :=
  row.gain.mul
    (((((row.c0.mul u).add (row.c1.mul f.y1)).add (row.c2.mul f.y2)).add (row.c3.mul f.y3)).add (row.c4.mul f.y4))

/-- `filterStep(F, x)` (R265); FLAT returns its input and changes nothing (R268). -/
def filterStep (p : StaticParams) (f : FilterInst) (x : F64) : F64 × FilterInst :=
  if f.mode = .flat then (x, f)
  else
    let u := coreInput p f x
    let f1 := coreStep f u
    (poleMix (modeRow p f.mode) u f1, f1)

end Sys2Proof.Machine
end

