-- ==== Sys2Proof/Machine/Pitch.lean ====
section
/-! DEFINITION. The pitch path and the oscillator (42_tick_osc.md R184 to R193). -/

namespace Sys2Proof.Machine

/-- `pitchTarget(n, b) = CFG[0] * POW2(((n + b) - REF_NOTE) / 12)` (R184). -/
def pitchTarget (s : State) (n : BitVec 7) (b : F64) : F64 :=
  s.cfg.tuning.mul
    (pow2F s.sta ((((F64.ofNat n.toNat).add b).sub s.sta.refNote).div (F64.ofNat 12)))

/-- The slide smoother, one step toward the target `t` (R185). DEDUCED, log 21: where the coefficient is 1 or close to it the
rounded sum `SLIDE_F + (t - SLIDE_F)` can miss `t` or pass it by the rounding of the difference, against R185's corner
cases `SLIDE_F = f_t` at SLIDE_TIME 0 and `SLIDE_F` between its old value and `f_t`; the model follows the formula. With an EXP other than the reference the
coefficient is held to [0, 1] (DEDUCED, log 24), so that SLIDE_F is never negative (R185) and INC and PHASE keep the ranges
of 10_state.md R32. -/
def slideStep (t : F64) (s : State) : State :=
  { s with slideF := onePole (unitCoef s.sta (lagCoef s.sta s.cfg.slideTime s.fs)) s.slideF t }

/-- The phase increment of the TICK's passes (R186). -/
def incStep (s : State) : State :=
  { s with inc := (s.slideF.div (filterRate s)).min s.sta.incMax }

/-- `pitchStep(v)`: target, slide smoother, increment (R180, R184, R185, R186). -/
def pitchStep (v : ParamSet) (s : State) : State :=
  incStep (slideStep (pitchTarget s s.note v.bend) s)

/-- One advance of the phase accumulator (R187). DEDUCED, log 21: in one corner the rounded sum is 1.5, against R188. -/
def advancePhase (phase inc : F64) : F64 :=
  let p := phase.add inc
  if F64.one.le p then p.sub F64.one else p

/-- The raw oscillator sample at a phase (R189). -/
def oscSample (p : StaticParams) (wave phase inc : F64) : F64 :=
  ((F64.one.sub wave).mul (waveA p phase inc)).add (wave.mul (waveB p phase inc))

/-- `oscPass(v)`: advances the phase, then reads it (R187, R189). -/
def oscPass (v : ParamSet) (s : State) : F64 × State :=
  let s1 := { s with phase := advancePhase s.phase s.inc }
  (oscSample s1.sta v.wave s1.phase s1.inc, s1)

end Sys2Proof.Machine
end

