-- ==== Sys2Proof/Machine/Chain.lean ====
section
/-! DEFINITION. The auxiliary stages, the morph engine, the oversampling chain, the output stage and the idle check
(45_morph_chain.md R290 to R307), and the loading of every coefficient by SET_RATE (40_control.md R111). -/

namespace Sys2Proof.Machine

/-! ## Auxiliary stages -/

/-- `biquadStep(S, in)`, direct form I, the sum evaluated left to right (R298). -/
def biquadStep (b : Biquad) (x : F64) : F64 × Biquad :=
  let c := b.coefs
  let out :=
    ((((c.b0.mul x).add (c.b1.mul b.x1)).add (c.b2.mul b.x2)).sub (c.a1.mul b.z1)).sub (c.a2.mul b.z2)
  (out, { b with x2 := b.x1, x1 := x, z2 := b.z1, z1 := out })

/-- `auxRun(STAGE, in)`: through the sections in order (R299). -/
def auxRun : List Biquad → F64 → F64 × List Biquad
  | [], x => (x, [])
  | b :: bs, x =>
    let (y, b1) := biquadStep b x
    let (z, bs1) := auxRun bs y
    (z, b1 :: bs1)

/-- `loadAux(STAGE, r)`: every section's coefficients, from section index `i` on; the histories stay (R300). -/
def loadAuxFrom (choice : FnChoice) (stage : AuxStage) (r : F64) : Nat → List Biquad → List Biquad
  | _, [] => []
  | i, b :: bs => { b with coefs := auxCoef choice stage i r } :: loadAuxFrom choice stage r (i + 1) bs

/-- `loadAux(STAGE, r)` (R300). -/
def loadAux (choice : FnChoice) (stage : AuxStage) (r : F64) (bs : List Biquad) : List Biquad :=
  loadAuxFrom choice stage r 0 bs

/-- What SET_RATE does with an accepted rate `x` (40_control.md R111): the exact coefficients of both filters and the
auxiliary coefficients, each stage at its rate. -/
def loadRate (x : F64) (s : State) : State :=
  let p := s.sta
  let r := osRate p x
  { s with
    fs := x
    rateValid := true
    fA := exactCoefs p r s.fA
    fB := exactCoefs p r s.fB
    preHpf := loadAux p.preHpf.coef .preHpf r s.preHpf
    aaLpf := loadAux p.aaLpf.coef .aaLpf r s.aaLpf
    allpass := loadAux p.allpass.coef .allpass x s.allpass
    postHpf := loadAux p.postHpf.coef .postHpf x s.postHpf
    notch := loadAux p.notch.coef .notch x s.notch }

/-! ## Morph engine -/

/-- The branch: the position 0.5 belongs to the low one (R290). -/
def morphLow (p : StaticParams) (pos : F64) : Bool := pos.le p.morphSplit

/-- The crossfade fraction (R290, R291). -/
def morphFraction (p : StaticParams) (pos : F64) : F64 :=
  let twice := (F64.ofNat 2).mul pos
  (if morphLow p pos then twice else twice.sub F64.one).min p.fracMax

/-- Filter A's mode at a position: LADDER on the low branch, MORPH_HI_MODE on the high one (R292). A MORPH_HI_MODE that
is no mode's code is held in no state a run reaches; the mode is then kept (log 12). -/
def modeAFor (pos : F64) (s : State) : FilterMode :=
  if morphLow s.sta pos then .ladder else (modeOfNum s.cfg.morphHiMode).getD s.fA.mode

/-- `morphSetup(v, fc)` (R292). -/
def morphSetup (v : ParamSet) (fc : F64) (s : State) : State :=
  let r := filterRate s
  { s with
    fA := setParams s.sta fc v.resonance v.drive r (setMode (modeAFor v.morph s) s.fA)
    fB := setParams s.sta fc v.resonance v.drive r (setMode s.sta.morphBMode s.fB) }

/-- The crossfade of the two filters' outputs (R293, 90_conflicts.md C3). At a TICK that crosses the split its weights are those of
R294, as in program P7 of 95_test_vectors.md, and not below the bound of 70_reset_and_hazards.md R373 (log 21). -/
def crossfade (low : Bool) (f yA yB : F64) : F64 :=
  if low then ((F64.one.sub f).mul yA).add (f.mul yB) else (f.mul yA).add ((F64.one.sub f).mul yB)

/-- `morphOut(xin)`: filter A steps before filter B (R293). -/
def morphOut (pos xin : F64) (s : State) : F64 × State :=
  let (yA, fA) := filterStep s.sta s.fA xin
  let (yB, fB) := filterStep s.sta s.fB xin
  (crossfade (morphLow s.sta pos) (morphFraction s.sta pos) yA (s.sta.filterBGain.mul yB), { s with fA := fA, fB := fB })

/-! ## Pass chain -/

/-- The filter input of a pass: the external input blended after the high-pass (R296). With EXTMIX 0 the term `0 * x` leaves
the sign of a zero to `x`, against R297's independence of `x` (log 21). -/
def blendInput (extmix sHp x : F64) : F64 := ((F64.one.sub extmix).mul sHp).add (extmix.mul x)

/-- `passChain(s, x, v)` (R296). -/
def passChain (osc x : F64) (v : ParamSet) (s : State) : F64 × State :=
  let (sHp, pre) := auxRun s.preHpf osc
  let (y, s1) := morphOut v.morph (blendInput v.extmix sHp x) { s with preHpf := pre }
  let (z, aa) := auxRun s1.aaLpf y
  (z, { s1 with aaLpf := aa })

/-- One oversampling pass: oscillator, then chain (42_tick_osc.md R180). -/
def onePass (x : F64) (v : ParamSet) (s : State) : F64 × State :=
  let (osc, s1) := oscPass v s
  passChain osc x v s1

/-- `n` passes; the value is the last pass's, the earlier ones are discarded (R301). `z` stands for no pass at all,
which OS = 0 would mean (log 13). -/
def passes (x : F64) (v : ParamSet) : Nat → F64 → State → F64 × State
  | 0, z, s => (z, s)
  | n + 1, _, s =>
    let (z, s1) := onePass x v s
    passes x v n z s1

/-! ## Output stage and idle check -/

/-- `outputStage(z, amp, v)` (R302). DEDUCED, log 21: its product is not finite where `z` is not or where it overflows, which
finite inputs can bring about, against R304; R304 also says the block repairs no such output, and the model follows R302. -/
def outputStage (z amp : F64) (v : ParamSet) (s : State) : F64 × State :=
  let (w1, ap) := auxRun s.allpass z
  let (w2, hp) := auxRun s.postHpf w1
  let (w, no) := auxRun s.notch w2
  let g := pow10F s.sta (v.volume.div (F64.ofNat 20))
  ((w.mul amp).mul g, { s with allpass := ap, postHpf := hp, notch := no })

/-- `idleCheck()` (R307). -/
def idleCheck (s : State) : State :=
  if s.noteState = .silent ∧ s.aStage = .idle ∧ s.dk.abs.le s.sta.idleEps then
    { s with idle := true, dk := F64.zero }
  else s

/-- A non-idle TICK on parameters `v` and external input `x`, up to the idle check (42_tick_osc.md R180, R183): the
output sample and the state. -/
def soundTick (v : ParamSet) (x : F64) (s : State) : F64 × State :=
  let s1 := pitchStep v s
  let ((fc, amp), s2) := envStep v s1
  let s3 := morphSetup v fc s2
  let (z, s4) := passes x v s3.sta.os F64.zero s3
  let (out, s5) := outputStage z amp v s4
  (out, idleCheck s5)

end Sys2Proof.Machine
end

