-- ==== Sys2Proof/Machine/Control.lean ====
section
/-! DEFINITION. The control commands (40_control.md R110 to R134). The checks of each stand in the order of its
pseudocode, which is the precedence of 60_exceptions.md R332. Every path ends in a next state. -/

namespace Sys2Proof.Machine

/-- NOP (R110). -/
def execNop (s : State) : Host.Outcome State Fault Refusal := .next s

/-- SET_RATE (R111 to R113). -/
def execSetRate (data : DataWord) (s : State) : Host.Outcome State Fault Refusal :=
  if s.inBlock then .next (raise .seq false s)
  else if !legalRate (F64.fromBits data) then .next (raise .rate false s)
  else .next (loadRate (F64.fromBits data) s)

/-- WRITE_PARAM (R114). -/
def execWriteParam (addr : Nat) (data : DataWord) (s : State) : Host.Outcome State Fault Refusal :=
  match paramAt addr with
  | none => .next (raise .addr false s)
  | some j =>
    if !(F64.fromBits data).isFinite then .next (raise .value false s)
    else .next { s with pQ := s.pQ.set j (clampParam s.sta j (F64.fromBits data)) }

/-- WRITE_CONFIG (R116). -/
def execWriteConfig (addr : Nat) (data : DataWord) (s : State) : Host.Outcome State Fault Refusal :=
  if s.inBlock then .next (raise .seq false s)
  else
    match configAt addr with
    | none => .next (raise .addr false s)
    | some a =>
      if !(F64.fromBits data).isFinite then .next (raise .value false s)
      else
        match configValue a (F64.fromBits data) with
        | none => .next (raise .value false s)
        | some x => .next { s with cfg := s.cfg.set a x }

/-- BEGIN_BLOCK (R118). -/
def execBeginBlock (len : Nat) (s : State) : Host.Outcome State Fault Refusal :=
  if !s.rateValid || s.inBlock then .next (raise .seq false s)
  else if len = 0 then .next (raise .value false s)
  else .next { s with inBlock := true, blockLen := BitVec.ofNat 16 len, ticksDone := 0, pE := s.pQ }

/-- READ_STATUS (R130). -/
def execReadStatus (s : State) : Host.Outcome State Fault Refusal := .next (respond (statusWord s) s)

/-- CLEAR_STATUS (R131). -/
def execClearStatus (s : State) : Host.Outcome State Fault Refusal := .next { s with err := ErrBits.clear }

/-- READ_PARAM (R132). -/
def execReadParam (sel : Bool) (addr : Nat) (s : State) : Host.Outcome State Fault Refusal :=
  match paramAt addr with
  | none => .next (raise .addr true s)
  | some j => .next (respond (if sel then s.pQ.get j else s.pC.get j).toBits s)

/-- READ_CONFIG (R134). -/
def execReadConfig (addr : Nat) (s : State) : Host.Outcome State Fault Refusal :=
  match configAt addr with
  | none => .next (raise .addr true s)
  | some a => .next (respond (s.cfg.get a).toBits s)

end Sys2Proof.Machine
end

