-- ==== Sys2Proof/Machine/Note.lean ====
section
/-! DEFINITION. The note commands (41_note.md R150 to R166). -/

namespace Sys2Proof.Machine

/-- `releaseAction` without its check (R159): Silent, and the amplitude envelope to RELEASE from ATTACK, DECAY or
SUSTAIN. -/
def releaseAction (s : State) : State :=
  { s with
    noteState := .silent
    aStage :=
      match s.aStage with
      | .attack => .release
      | .decay => .release
      | .sustain => .release
      | .release => .release
      | .idle => .idle }

/-- The CLEAR branch of ALL_OFF (R162, R163): the envelopes to 0 at once, the declick as it was. DEDUCED, log 23: R162's
corner case says that ALL_OFF while Silent and idle changes nothing, but its pseudocode zeroes M_STAGE, M_LEVEL, PN and
PA, which may be nonzero while idle (45_morph_chain.md R307); the model follows the pseudocode. -/
def clearAction (s : State) : State :=
  { s with
    noteState := .silent
    aStage := .idle
    aLevel := F64.zero
    mStage := .idle
    mLevel := F64.zero
    pn := F64.zero
    pa := F64.zero }

/-- What a TRIGGER with a velocity above 0 does (R152, R154, R155). -/
def triggerAction (note : BitVec 7) (vel : Nat) (s : State) : State :=
  { s with
    note := note
    accent := decide (s.sta.accentThreshold ≤ vel)
    noteState := .sounding
    idle := false
    slideF := pitchTarget s note s.pC.bend
    mStage := .ramp
    aStage := .attack }

/-- TRIGGER (R152); a velocity of 0 releases (R153). -/
def execTrigger (note vel : Nat) (s : State) : Host.Outcome State Fault Refusal :=
  if blockStarted s then .next (raise .seq false s)
  else if vel = 0 then .next (releaseAction s)
  else .next (triggerAction (BitVec.ofNat 7 note) vel s)

/-- SLIDE (R156); while Silent it changes NOTE only (R158). -/
def execSlide (note : Nat) (s : State) : Host.Outcome State Fault Refusal :=
  if blockStarted s then .next (raise .seq false s)
  else
    .next { s with
      note := BitVec.ofNat 7 note
      noteState := if s.noteState = .silent then .silent else .sliding }

/-- RELEASE (R159). -/
def execRelease (s : State) : Host.Outcome State Fault Refusal :=
  if blockStarted s then .next (raise .seq false s)
  else .next (releaseAction s)

/-- ALL_OFF (R162). -/
def execAllOff (s : State) : Host.Outcome State Fault Refusal :=
  if blockStarted s then .next (raise .seq false s)
  else
    match s.sta.allOffMode with
    | .release => .next (releaseAction s)
    | .clear => .next (clearAction s)

end Sys2Proof.Machine
end

