-- ==== Sys2Proof/Machine/Tick.lean ====
section
/-! DEFINITION. TICK (42_tick_osc.md R180 to R183). -/

namespace Sys2Proof.Machine

/-- A non-finite input sample sets ERR_VALUE, and the TICK goes on (R181). -/
def noteInput (x : F64) (s : State) : State := if x.isFinite then s else setErr .value s

/-- The output sample of a TICK on parameters `v` and input `x`, and the state before the block advances: 0.0 and no
change while idle (45_morph_chain.md R306), else the sounding TICK. -/
def render (v : ParamSet) (x : F64) (s : State) : F64 × State :=
  if s.idle then (F64.zero, s) else soundTick v x s

/-- TICK (R180). -/
def execTick (data : DataWord) (s : State) : Host.Outcome State Fault Refusal :=
  if !s.inBlock then .next (raise .seq true s)
  else
    let x := F64.fromBits data
    let r := render (smoothed s) (inputSample x) (noteInput x s)
    .next (respond r.1.toBits (blockAdvance r.2))

end Sys2Proof.Machine
end

