-- ==== Sys2Proof/Machine/Dispatch.lean ====
section
/-! DEFINITION. One arm per command, each one direct call of its meaning. -/

namespace Sys2Proof.Machine

def exec (i : Instr) (s : State) : Host.Outcome State Fault Refusal :=
  match i with
  | .nop => Sys2Proof.Machine.execNop s
  | .setRate data => Sys2Proof.Machine.execSetRate data s
  | .writeParam addr data => Sys2Proof.Machine.execWriteParam addr data s
  | .writeConfig addr data => Sys2Proof.Machine.execWriteConfig addr data s
  | .beginBlock len => Sys2Proof.Machine.execBeginBlock len s
  | .trigger note vel => Sys2Proof.Machine.execTrigger note vel s
  | .slide note => Sys2Proof.Machine.execSlide note s
  | .release => Sys2Proof.Machine.execRelease s
  | .allOff => Sys2Proof.Machine.execAllOff s
  | .tick data => Sys2Proof.Machine.execTick data s
  | .readStatus => Sys2Proof.Machine.execReadStatus s
  | .readParam sel addr => Sys2Proof.Machine.execReadParam sel addr s
  | .readConfig addr => Sys2Proof.Machine.execReadConfig addr s
  | .clearStatus => Sys2Proof.Machine.execClearStatus s

end Sys2Proof.Machine
end

