-- ==== Sys2Proof/WellFormed.lean ====
section
/-! DEFINITION. Which terms of `Instr` a command word can carry: every operand within the range of its field
(30_encoding.md R82, R83). A register address without a register, a block length of 0 and a velocity of 0 are
well formed: they decode, and the command deals with them (R87). -/

namespace Sys2Proof

/-- `addr = cmd[7:0]`, 0..255 (R83). -/
def fitsAddr (addr : Nat) : Bool := decide (addr < 256)

/-- `len = cmd[15:0]`, 0..65535 (R83). -/
def fitsLen (len : Nat) : Bool := decide (len < 65536)

/-- `note = cmd[6:0]`, 0..127 (R83). -/
def fitsNote (note : Nat) : Bool := decide (note < 128)

/-- `vel = cmd[14:8]`, 0..127 (R83). -/
def fitsVel (vel : Nat) : Bool := decide (vel < 128)

/-- Every operand lies in its field's range. -/
def Instr.WellFormed : Instr → Bool
  | .nop => true
  | .setRate _ => true
  | .writeParam addr _ => fitsAddr addr
  | .writeConfig addr _ => fitsAddr addr
  | .beginBlock len => fitsLen len
  | .trigger note vel => fitsNote note && fitsVel vel
  | .slide note => fitsNote note
  | .release => true
  | .allOff => true
  | .tick _ => true
  | .readStatus => true
  | .readParam _ addr => fitsAddr addr
  | .readConfig addr => fitsAddr addr
  | .clearStatus => true

end Sys2Proof
end

