-- ==== Sys2Proof/Decode.lean ====
section
/-! DEFINITION. Decoding and encoding of command words (30_encoding.md R80 to R91). Decoding is total (R86):
a command of R85 with its fields, "reserved bits set", or "reserved opcode". After it, the encoder, written
from the same table (R82, R89), and the byte serialisation of a command on a host link (20_memory.md R63). -/

namespace Sys2Proof

/-- The three outcomes of R86. -/
inductive Decoded where
  /-- (a) a command of R85 with its fields. -/
  | command (i : Instr)
  /-- (b) an opcode 0x0..0xD whose word does not match the row's mask; `responds` says whether the opcode is
  of a responding kind (R86, R88). -/
  | reservedBits (responds : Bool)
  /-- (c) the opcodes 0xE and 0xF. -/
  | reservedOpcode
deriving DecidableEq, Repr

/-- `w[hi:lo]` as an unsigned integer (00_scope.md R9), `len = hi - lo + 1`. -/
def field (w : CmdWord) (lo len : Nat) : Nat := (w.extractLsb' lo len).toNat

/-- `cmd[31:28]` (R81). -/
def opcodeOf (w : CmdWord) : Nat := field w 28 4

/-- `addr = cmd[7:0]` (R82, formats A and AS). -/
def addrOf (w : CmdWord) : Nat := field w 0 8

/-- `sel = cmd[8]` (R82, format AS). -/
def selOf (w : CmdWord) : Bool := w.getLsbD 8

/-- `len = cmd[15:0]` (R82, format L). -/
def lenOf (w : CmdWord) : Nat := field w 0 16

/-- `note = cmd[6:0]` (R82, formats NV and N). -/
def noteOf (w : CmdWord) : Nat := field w 0 7

/-- `vel = cmd[14:8]` (R82, format NV). -/
def velOf (w : CmdWord) : Nat := field w 8 7

/-- Format Z: every bit of `cmd[27:0]` is reserved (R82). -/
def maskZ : CmdWord := 0xFFFFFFFF#32

/-- Format A: `cmd[27:8]` is reserved (R82). -/
def maskA : CmdWord := 0xFFFFFF00#32

/-- Format AS: `cmd[27:9]` is reserved (R82). -/
def maskAS : CmdWord := 0xFFFFFE00#32

/-- Format L: `cmd[27:16]` is reserved (R82). -/
def maskL : CmdWord := 0xFFFF0000#32

/-- Format NV: `cmd[27:15]` and `cmd[7]` are reserved (R82). -/
def maskNV : CmdWord := 0xFFFF8080#32

/-- Format N: `cmd[27:7]` is reserved (R82). -/
def maskN : CmdWord := 0xFFFFFF80#32

/-- The row of R85 whose opcode the word has: outcome (a) if the word matches the row, else outcome (b). -/
def decodeRow (w : CmdWord) (mask matchWord : CmdWord) (i : Instr) : Decoded :=
  if w &&& mask = matchWord then .command i else .reservedBits i.responds

/-- Decoding of a command (R85, R86). -/
def decode (c : Command) : Decoded :=
  match opcodeOf c.cmd with
  | 0x0 => decodeRow c.cmd maskZ 0x00000000#32 .nop
  | 0x1 => decodeRow c.cmd maskZ 0x10000000#32 (.setRate c.data)
  | 0x2 => decodeRow c.cmd maskA 0x20000000#32 (.writeParam (addrOf c.cmd) c.data)
  | 0x3 => decodeRow c.cmd maskA 0x30000000#32 (.writeConfig (addrOf c.cmd) c.data)
  | 0x4 => decodeRow c.cmd maskL 0x40000000#32 (.beginBlock (lenOf c.cmd))
  | 0x5 => decodeRow c.cmd maskNV 0x50000000#32 (.trigger (noteOf c.cmd) (velOf c.cmd))
  | 0x6 => decodeRow c.cmd maskN 0x60000000#32 (.slide (noteOf c.cmd))
  | 0x7 => decodeRow c.cmd maskZ 0x70000000#32 .release
  | 0x8 => decodeRow c.cmd maskZ 0x80000000#32 .allOff
  | 0x9 => decodeRow c.cmd maskZ 0x90000000#32 (.tick c.data)
  | 0xA => decodeRow c.cmd maskZ 0xA0000000#32 .readStatus
  | 0xB => decodeRow c.cmd maskAS 0xB0000000#32 (.readParam (selOf c.cmd) (addrOf c.cmd))
  | 0xC => decodeRow c.cmd maskA 0xC0000000#32 (.readConfig (addrOf c.cmd))
  | 0xD => decodeRow c.cmd maskZ 0xD0000000#32 .clearStatus
  | _ => .reservedOpcode

/-- The command of an opcode-table word: `cmd` is bits 31:0, `data` the 64 bits after it, and every bit at or
above `nbits` is 0. -/
def commandOfTableWord (nbits w : Nat) : Command :=
  let v := w % 2 ^ nbits
  { cmd := BitVec.ofNat 32 v, data := BitVec.ofNat 64 (v / 2 ^ 32) }

/-- The instruction the decoder reads from an opcode-table word (none where it rejects it). -/
def decodeTableWord (nbits w : Nat) : Option Instr :=
  match decode (commandOfTableWord nbits w) with
  | .command i => some i
  | .reservedBits _ => none
  | .reservedOpcode => none

/-- The command word of an instruction (R82, R89): opcode, fields, zero in every reserved bit. -/
def encodeWord : Instr → CmdWord
  | .nop => 0x00000000#32
  | .setRate _ => 0x10000000#32
  | .writeParam addr _ => 0x20000000#32 ||| BitVec.zeroExtend 32 (BitVec.ofNat 8 addr)
  | .writeConfig addr _ => 0x30000000#32 ||| BitVec.zeroExtend 32 (BitVec.ofNat 8 addr)
  | .beginBlock len => 0x40000000#32 ||| BitVec.zeroExtend 32 (BitVec.ofNat 16 len)
  | .trigger note vel =>
    0x50000000#32 ||| (BitVec.zeroExtend 32 (BitVec.ofNat 7 vel) <<< 8) ||| BitVec.zeroExtend 32 (BitVec.ofNat 7 note)
  | .slide note => 0x60000000#32 ||| BitVec.zeroExtend 32 (BitVec.ofNat 7 note)
  | .release => 0x70000000#32
  | .allOff => 0x80000000#32
  | .tick _ => 0x90000000#32
  | .readStatus => 0xA0000000#32
  | .readParam sel addr =>
    0xB0000000#32 ||| (BitVec.zeroExtend 32 (BitVec.ofBool sel) <<< 8) ||| BitVec.zeroExtend 32 (BitVec.ofNat 8 addr)
  | .readConfig addr => 0xC0000000#32 ||| BitVec.zeroExtend 32 (BitVec.ofNat 8 addr)
  | .clearStatus => 0xD0000000#32

/-- The data word of an instruction: its Num operand, or 0 where it has none (R89). -/
def encodeData : Instr → DataWord
  | .nop => 0
  | .setRate data => data
  | .writeParam _ data => data
  | .writeConfig _ data => data
  | .beginBlock _ => 0
  | .trigger _ _ => 0
  | .slide _ => 0
  | .release => 0
  | .allOff => 0
  | .tick data => data
  | .readStatus => 0
  | .readParam _ _ => 0
  | .readConfig _ => 0
  | .clearStatus => 0

/-- The words of an instruction (R89). -/
def encode (i : Instr) : Command := { cmd := encodeWord i, data := encodeData i }

/-! ## Serialisation on a host link (20_memory.md R63: least-significant byte first) -/

/-- A word of `n` bytes, least-significant byte first. -/
def littleEndianBytes (w : Nat) : Nat → List Byte
  | 0 => []
  | n + 1 => BitVec.ofNat 8 w :: littleEndianBytes (w / 256) n

/-- The number that bytes, least-significant first, stand for. -/
def ofLittleEndian : List Byte → Nat
  | [] => 0
  | b :: bs => b.toNat + 256 * ofLittleEndian bs

/-- A command as the 12 bytes a host link carries: the 4 bytes of `cmd`, then the 8 bytes of `data`. That the command
word goes first is the model's DESIGN CHOICE (log 22): R63 orders the bytes of one word, R80 names the pair, and neither
orders the two words on a link. No step reads the order. -/
def Command.toBytes (c : Command) : List Byte :=
  littleEndianBytes c.cmd.toNat 4 ++ littleEndianBytes c.data.toNat 8

/-- The next command of a byte stream and the bytes after it, its command word first (DESIGN CHOICE, log 22); `none` on
fewer than 12 bytes (log 19). -/
def Command.ofBytes (bs : List Byte) : Option (Command × List Byte) :=
  if bs.length < 12 then none
  else some ({ cmd := BitVec.ofNat 32 (ofLittleEndian (bs.take 4))
               data := BitVec.ofNat 64 (ofLittleEndian ((bs.drop 4).take 8)) }, bs.drop 12)

end Sys2Proof
end

