-- ==== Sys2Proof/Machine/Fetch.lean ====
section
/-! DEFINITION. How a command reaches the block and what the decoder's two rejections do (30_encoding.md R80, R86,
R87, R88). The block fetches nothing (20_memory.md R72): the host presents commands, `port` holds those not yet
executed, and one step executes the first (log 1). -/

namespace Sys2Proof.Machine

/-- The command presented, with the state from which it has been taken; none while the host presents none. -/
def nextCommand (s : State) : Option (Command × State) :=
  match s.port with
  | [] => none
  | c :: rest => some (c, { s with port := rest })

/-- Outcome (b) of R86, reserved bits set: ERR_CMD, and the response 0 if the opcode is of a responding kind. -/
def rejectReservedBits (responds : Bool) (s : State) : State := raise .cmd responds s

/-- Outcome (c) of R86, a reserved opcode: ERR_CMD and never a response (R88). -/
def rejectReservedOpcode (s : State) : State := raise .cmd false s

/-- The host presents a command ahead of those already waiting. -/
def presentCommand (c : Command) (s : State) : State := { s with port := c :: s.port }

end Sys2Proof.Machine
end

