-- ==== Sys2Proof/Machine/Step.lean ====
section
/-! DEFINITION. One step: the block executes the command presented to it (00_scope.md R3). -/

namespace Sys2Proof.Machine

/-- One step. With no command presented the block waits (log 4). -/
def step (s : State) : Host.Outcome State Fault Refusal :=
  match nextCommand s with
  | none => .next s
  | some (c, s1) =>
    match decode c with
    | .command i => exec i s1
    | .reservedBits responds => .next (rejectReservedBits responds s1)
    | .reservedOpcode => .next (rejectReservedOpcode s1)

/-- The state in which the next step executes exactly an opcode-table word (log 1). -/
def State.withFetchWord (s : State) (nbits w : Nat) : State := presentCommand (commandOfTableWord nbits w) s

end Sys2Proof.Machine
end

