-- ==== Sys2Proof/Safety.lean ====
section
/-! DEFINITION. What the spec promises of every reachable state, in the terms the statements use: the invariants of
10_state.md R25, R28, R30, R23, 44_filter.md R258, 45_morph_chain.md R292, R307, and what a run is. -/

namespace Sys2Proof.Machine

/-- The block sequencer's invariant (R25). -/
def SequencerOk (s : State) : Prop :=
  (s.inBlock = false → s.blockLen = 0 ∧ s.ticksDone = 0) ∧
  (s.inBlock = true → 1 ≤ s.blockLen.toNat ∧ s.ticksDone.toNat < s.blockLen.toNat)

/-- `lo ≤ x ≤ hi`; false of a NaN. -/
def Between (lo hi x : F64) : Prop := lo.le x = true ∧ x.le hi = true

/-- Every parameter of a set lies in its range (R28). -/
def ParamsIn (p : StaticParams) (v : ParamSet) : Prop :=
  ∀ j : ParamId, Between (p.paramMin.get j) (p.paramMax.get j) (v.get j)

/-- The stored parameters lie in their ranges (R28). -/
def ParamsOk (s : State) : Prop :=
  ParamsIn s.sta s.pC ∧ ParamsIn s.sta s.pQ ∧ ParamsIn s.sta s.pE

/-- The configuration registers hold legal values (R30). -/
def ConfigOk (s : State) : Prop :=
  (∀ a : ConfigId, Between (configMin a) (configMax a) (s.cfg.get a)) ∧ legalHiMode s.cfg.morphHiMode = true

/-- The filters' modes: A switches among LADDER, HP12 and HP24, B never switches (R258, R292). -/
def ModesOk (s : State) : Prop :=
  (s.fA.mode = .ladder ∨ s.fA.mode = .hp12 ∨ s.fA.mode = .hp24) ∧ s.fB.mode = s.sta.morphBMode

/-- The rate registers (R23) and what an open block needs of them (R118). -/
def RateOk (s : State) : Prop :=
  (s.rateValid = true → s.fs.isFinite = true ∧ F64.zero.lt s.fs = true) ∧
  (s.rateValid = false → s.fs = F64.zero ∧ s.inBlock = false)

/-- While idle no note is held, the amplitude envelope rests and the declick is at 0; a silent block's amplitude
envelope is resting or in release (R307, R159). -/
def IdleOk (s : State) : Prop :=
  (s.idle = true → s.noteState = .silent ∧ s.aStage = .idle ∧ s.dk = F64.zero) ∧
  (s.noteState = .silent → s.aStage = .idle ∨ s.aStage = .release)

/-- Each auxiliary stage has its static number of sections (10_state.md R38). -/
def SectionsOk (s : State) : Prop :=
  s.preHpf.length = s.sta.preHpf.sections ∧ s.aaLpf.length = s.sta.aaLpf.sections ∧
  s.allpass.length = s.sta.allpass.sections ∧ s.postHpf.length = s.sta.postHpf.sections ∧
  s.notch.length = s.sta.notch.sections

/-- The counts are those the rules write out, MODE_TABLE has a row per mode, the static ranges are ranges, and a TICK
makes at least one pass (00_scope.md R7, 10_state.md R27, 44_filter.md R253). -/
def StaticOk (p : StaticParams) : Prop :=
  1 ≤ p.os ∧ p.numParams = 11 ∧ p.numModes = 15 ∧ p.modeTable.length = p.numModes ∧
  ∀ j : ParamId, (p.paramMin.get j).le (p.paramMax.get j) = true

/-- The invariant of the machine. -/
structure BlockInv (s : State) : Prop where
  statics   : StaticOk s.sta
  sequencer : SequencerOk s
  params    : ParamsOk s
  config    : ConfigOk s
  modes     : ModesOk s
  rate      : RateOk s
  idle      : IdleOk s
  sections  : SectionsOk s

/-- `n` steps from `s`, each answering a next state: `t` is reached. -/
inductive Reaches : Nat → State → State → Prop where
  | refl (s : State) : Reaches 0 s s
  | step {n : Nat} {s t u : State} (h : Machine.step s = .next t) (r : Reaches n t u) : Reaches (n + 1) s u

/-- The state a host sees by giving the commands `cs` one after the other; a step that is no next state ends the run. -/
def runCommands : List Instr → State → Option State
  | [], s => some s
  | i :: is, s =>
    match exec i s with
    | .next t => runCommands is t
    | .fault _ => none
    | .refused _ => none

end Sys2Proof.Machine
end

