-- ==== Sys2Proof/Certificates/Slice0/Obligations.lean ====
section
/-! DEFINITION. The statements for the provers, from the numbered rules of spec/. Each docstring names its rules. -/

open Sys2Proof Sys2Proof.Machine

/-! ## Encoding -/

/-- 30_encoding.md R82, R83, R85, R89: every well-formed command is read back from the words the encoder writes for it,
with every operand at every value of its field. -/
def Obligations.EncodeThenDecodeGivesTheCommand : Prop :=
  ∀ i : Instr, i.WellFormed = true → decode (encode i) = .command i

/-- 30_encoding.md R85, R86: a word that decodes to a command is the command word the encoder writes for that command, and
where the command reads its data word that too is the encoder's; so no two words of 32 bits are one command. -/
def Obligations.DecodeThenEncodeGivesTheWord : Prop :=
  ∀ (c : Command) (i : Instr), decode c = .command i →
    i.WellFormed = true ∧ (encode i).cmd = c.cmd ∧ (i.opcode ∈ [0x1, 0x2, 0x3, 0x9] → (encode i).data = c.data)

/-- 30_encoding.md R91: the worked encodings, in both directions. -/
def Obligations.WorkedEncodings : Prop :=
  encode (.trigger 45 127) = ⟨0x50007F2D#32, 0⟩ ∧ decode ⟨0x50007F2D#32, 0⟩ = .command (.trigger 45 127) ∧
  encode (.slide 48) = ⟨0x60000030#32, 0⟩ ∧ decode ⟨0x60000030#32, 0⟩ = .command (.slide 48) ∧
  encode (.beginBlock 64) = ⟨0x40000040#32, 0⟩ ∧ decode ⟨0x40000040#32, 0⟩ = .command (.beginBlock 64) ∧
  encode (.writeParam 7 0x3FE0000000000000#64) = ⟨0x20000007#32, 0x3FE0000000000000#64⟩ ∧
  decode ⟨0x20000007#32, 0x3FE0000000000000#64⟩ = .command (.writeParam 7 0x3FE0000000000000#64) ∧
  encode (.setRate 0x40E5888000000000#64) = ⟨0x10000000#32, 0x40E5888000000000#64⟩ ∧
  decode ⟨0x10000000#32, 0x40E5888000000000#64⟩ = .command (.setRate 0x40E5888000000000#64) ∧
  encode (.readParam true 1) = ⟨0xB0000101#32, 0⟩ ∧ decode ⟨0xB0000101#32, 0⟩ = .command (.readParam true 1) ∧
  paramAt 7 = some .morph ∧ paramAt 1 = some .cutoff

/-! ## The step -/

/-- 00_scope.md R3, 20_memory.md R72: the step executes the command the host has presented, once, and takes it from the
port (the port is the model's own field, log 1). -/
def Obligations.StepRunsTheDecodedCommand : Prop :=
  ∀ (s : State) (c : Command) (rest : List Command) (i : Instr),
    s.port = c :: rest → decode c = .command i → step s = exec i { s with port := rest }

/-- 30_encoding.md R86, R88: every command word is in exactly one of the three outcomes; a word that matches its row is that
command with the fields that encode to it; a reserved opcode sets ERR_CMD and nothing else; so does a word whose reserved
bits are set, which answers 0 if its opcode is TICK, READ_STATUS, READ_PARAM or READ_CONFIG. The masks are those of R85,
listed by opcode; the match word is the opcode over zeros. That the step takes the pair from `port` is the model's choice
(log 1). -/
def Obligations.ReservedWordsOnlyRaiseErrCmd : Prop :=
  let masks : List CmdWord :=
    [0xFFFFFFFF#32, 0xFFFFFFFF#32, 0xFFFFFF00#32, 0xFFFFFF00#32, 0xFFFF0000#32, 0xFFFF8080#32, 0xFFFFFF80#32,
      0xFFFFFFFF#32, 0xFFFFFFFF#32, 0xFFFFFFFF#32, 0xFFFFFFFF#32, 0xFFFFFE00#32, 0xFFFFFF00#32, 0xFFFFFFFF#32]
  ∀ (s : State) (c : Command) (rest : List Command), s.port = c :: rest →
    (14 ≤ (c.cmd >>> 28).toNat →
      decode c = .reservedOpcode ∧ step s = .next { s with port := rest, err := { s.err with cmd := true } }) ∧
    (∀ mask : CmdWord, masks[(c.cmd >>> 28).toNat]? = some mask →
      ((c.cmd &&& mask = (c.cmd >>> 28) <<< 28 →
          ∃ i : Instr, decode c = .command i ∧ i.opcode = (c.cmd >>> 28).toNat ∧ i.WellFormed = true ∧ (encode i).cmd = c.cmd) ∧
       (c.cmd &&& mask ≠ (c.cmd >>> 28) <<< 28 →
          (∀ i : Instr, decode c ≠ .command i) ∧
          step s = .next
            { s with
              port := rest
              err := { s.err with cmd := true }
              responses :=
                if (c.cmd >>> 28).toNat ∈ [0x9, 0xA, 0xB, 0xC] then s.responses ++ [0] else s.responses })))

/-- 60_exceptions.md R337 and 42_tick_osc.md R181, on the model's step: no step faults or refuses; with no command
presented the block waits (log 4, the model's choice). -/
def Obligations.EveryStepAnswersNext : Prop :=
  ∀ s : State, (s.port = [] → step s = .next s) ∧ ∃ t : State, step s = .next t

/-- The host's way of presenting one command is the step's way of taking it (log 1, the model's choice). -/
def Obligations.PresentedTableWordIsTheNextStep : Prop :=
  ∀ (s : State) (nbits w : Nat) (i : Instr), decodeTableWord nbits w = some i → step (s.withFetchWord nbits w) = exec i s

/-! ## Control commands: the whole effect of each, every other field unchanged -/

/-- 40_control.md R110: NOP has no effect in any state, whatever its data word. -/
def Obligations.NopChangesNothing : Prop :=
  (∀ d : DataWord, decode ⟨0x00000000#32, d⟩ = .command .nop) ∧ ∀ s : State, exec .nop s = .next s

/-- 40_control.md R111, R112; 44_filter.md R260; 45_morph_chain.md R300: SET_RATE accepted, with everything it writes, and
its two rejections in their order. That G and H are held to [0, 1] with an EXP other than the reference, and that H is 0 at
FB_HPF_FC 0 with every EXP (44_filter.md R259), is the model's choice (log 24). -/
def Obligations.SetRateLoadsEveryCoefficient : Prop :=
  ∀ (d : DataWord) (s : State),
    let x := F64.fromBits d
    let p := s.sta
    let r := (F64.ofNat p.os).mul x
    let hold := fun (c : F64) => if p.expFn = .reference then c else c.clamp F64.zero F64.one
    let load := fun (f : FilterInst) =>
      { f with
        resSkew := resSkewF p (f.resRaw.div (F64.ofNat 100))
        g := hold (poleCoef p f.cut r)
        k := p.kScale.mul (resSkewF p (f.resRaw.div (F64.ofNat 100)))
        dl := pow10F p (f.driveDb.div (F64.ofNat 20))
        h := if p.fbHpfFc.isZero then F64.zero else hold (poleCoef p p.fbHpfFc r) }
    let loadStage := fun (spec : AuxSpec) (stage : AuxStage) (rate : F64) (bs : List Biquad) =>
      bs.mapIdx fun i b => { b with coefs := auxCoef spec.coef stage i rate }
    decode ⟨0x10000000#32, d⟩ = .command (.setRate d) ∧
    (s.inBlock = true → exec (.setRate d) s = .next { s with err := { s.err with seq := true } }) ∧
    (s.inBlock = false → (x.isFinite = false ∨ F64.zero.lt x = false) →
      exec (.setRate d) s = .next { s with err := { s.err with rate := true } }) ∧
    (s.inBlock = false → x.isFinite = true → F64.zero.lt x = true →
      exec (.setRate d) s = .next
        { s with
          fs := x
          rateValid := true
          fA := load s.fA
          fB := load s.fB
          preHpf := loadStage p.preHpf .preHpf r s.preHpf
          aaLpf := loadStage p.aaLpf .aaLpf r s.aaLpf
          allpass := loadStage p.allpass .allpass x s.allpass
          postHpf := loadStage p.postHpf .postHpf x s.postHpf
          notch := loadStage p.notch .notch x s.notch })

/-- 40_control.md R114 and its checks' order (60_exceptions.md R332): WRITE_PARAM stores the clamped value in the requested
value of the addressed parameter and nothing else; the addresses are those of 10_state.md R27, each written out. That the
range of BEND is BEND_RANGE either side of 0 in every configuration is the model's choice (log 3). -/
def Obligations.WriteParamStoresTheClampedRequest : Prop :=
  ∀ (a : Nat) (d : DataWord) (s : State),
    let x := F64.fromBits d
    let lo := s.sta.paramMin
    let hi := s.sta.paramMax
    let write := fun (q : ParamSet) => Host.Outcome.next (φ := Fault) (ρ := Refusal) { s with pQ := q }
    (a < 256 → decode ⟨0x20000000#32 ||| BitVec.ofNat 32 a, d⟩ = .command (.writeParam a d)) ∧
    (10 < a → exec (.writeParam a d) s = .next { s with err := { s.err with addr := true } }) ∧
    (a ≤ 10 → x.isFinite = false → exec (.writeParam a d) s = .next { s with err := { s.err with value := true } }) ∧
    lo.bend = s.sta.bendRange.neg ∧ hi.bend = s.sta.bendRange ∧
    (x.isFinite = true →
      exec (.writeParam 0 d) s = write { s.pQ with wave := x.clamp lo.wave hi.wave } ∧
      exec (.writeParam 1 d) s = write { s.pQ with cutoff := x.clamp lo.cutoff hi.cutoff } ∧
      exec (.writeParam 2 d) s = write { s.pQ with resonance := x.clamp lo.resonance hi.resonance } ∧
      exec (.writeParam 3 d) s = write { s.pQ with envmod := x.clamp lo.envmod hi.envmod } ∧
      exec (.writeParam 4 d) s = write { s.pQ with decay := x.clamp lo.decay hi.decay } ∧
      exec (.writeParam 5 d) s = write { s.pQ with accent := x.clamp lo.accent hi.accent } ∧
      exec (.writeParam 6 d) s = write { s.pQ with volume := x.clamp lo.volume hi.volume } ∧
      exec (.writeParam 7 d) s = write { s.pQ with morph := x.clamp lo.morph hi.morph } ∧
      exec (.writeParam 8 d) s = write { s.pQ with drive := x.clamp lo.drive hi.drive } ∧
      exec (.writeParam 9 d) s = write { s.pQ with bend := x.clamp lo.bend hi.bend } ∧
      exec (.writeParam 10 d) s = write { s.pQ with extmix := x.clamp lo.extmix hi.extmix })

/-- 40_control.md R116, 10_state.md R30: WRITE_CONFIG outside a block; the ranges are those of the address map. -/
def Obligations.WriteConfigStoresALegalValue : Prop :=
  ∀ (a : Nat) (d : DataWord) (s : State),
    let x := F64.fromBits d
    let write := fun (c : ConfigSet) => Host.Outcome.next (φ := Fault) (ρ := Refusal) { s with cfg := c }
    (a < 256 → decode ⟨0x30000000#32 ||| BitVec.ofNat 32 a, d⟩ = .command (.writeConfig a d)) ∧
    (s.inBlock = true → exec (.writeConfig a d) s = .next { s with err := { s.err with seq := true } }) ∧
    (s.inBlock = false → 4 < a → exec (.writeConfig a d) s = .next { s with err := { s.err with addr := true } }) ∧
    (s.inBlock = false → a ≤ 4 → x.isFinite = false →
      exec (.writeConfig a d) s = .next { s with err := { s.err with value := true } }) ∧
    (s.inBlock = false → x.isFinite = true →
      exec (.writeConfig 0 d) s = write { s.cfg with tuning := x.clamp (F64.ofNat 100) (F64.ofNat 1000) } ∧
      exec (.writeConfig 1 d) s = write { s.cfg with slideTime := x.clamp F64.zero (F64.ofNat 2000) } ∧
      exec (.writeConfig 2 d) s = write { s.cfg with normalPathTau := x.clamp F64.zero (F64.ofNat 1000) } ∧
      exec (.writeConfig 3 d) s = write { s.cfg with accentPathTau := x.clamp F64.zero (F64.ofNat 1000) } ∧
      (x.eq (F64.ofNat 6) = true ∨ x.eq (F64.ofNat 8) = true →
        exec (.writeConfig 4 d) s = write { s.cfg with morphHiMode := x }) ∧
      (x.eq (F64.ofNat 6) = false → x.eq (F64.ofNat 8) = false →
        exec (.writeConfig 4 d) s = .next { s with err := { s.err with value := true } }))

/-- 40_control.md R118: BEGIN_BLOCK opens a block and latches every requested value, or is rejected. -/
def Obligations.BeginBlockLatchesTheRequests : Prop :=
  ∀ (n : Nat) (s : State), n < 65536 →
    (∀ d : DataWord, decode ⟨0x40000000#32 ||| BitVec.ofNat 32 n, d⟩ = .command (.beginBlock n)) ∧
    (s.rateValid = false ∨ s.inBlock = true →
      exec (.beginBlock n) s = .next { s with err := { s.err with seq := true } }) ∧
    (s.rateValid = true → s.inBlock = false → n = 0 →
      exec (.beginBlock n) s = .next { s with err := { s.err with value := true } }) ∧
    (s.rateValid = true → s.inBlock = false → n ≠ 0 →
      ∃ len : BitVec 16, len.toNat = n ∧
        exec (.beginBlock n) s = .next { s with inBlock := true, blockLen := len, ticksDone := 0, pE := s.pQ })

/-- 10_state.md R21, R37: the STATUS word, field by field; the bits not listed read as 0; after reset IDLE is 1, NOTE is 60 and
every other bit 0. -/
def Obligations.StatusWordFields : Prop :=
  statusWord State.reset = 0x000000003C000002#64 ∧
  ∀ s : State,
    let w := statusWord s
    w.getLsbD 0 = s.rateValid ∧ w.getLsbD 1 = s.idle ∧
    (w.extractLsb' 2 2).toNat = (match s.noteState with | .silent => 0 | .sounding => 1 | .sliding => 2) ∧
    w.getLsbD 4 = s.accent ∧ w.getLsbD 5 = s.inBlock ∧
    (w.extractLsb' 6 3).toNat =
      (match s.aStage with | .idle => 0 | .attack => 1 | .decay => 2 | .sustain => 3 | .release => 4) ∧
    (w.extractLsb' 9 2).toNat = (match s.mStage with | .idle => 0 | .ramp => 1 | .decay => 2) ∧
    (w.getLsbD 11 = true ↔ s.fA.mode ≠ .ladder) ∧
    w.extractLsb' 12 4 = 0 ∧
    w.getLsbD 16 = s.err.rate ∧ w.getLsbD 17 = s.err.seq ∧ w.getLsbD 18 = s.err.cmd ∧ w.getLsbD 19 = s.err.addr ∧
    w.getLsbD 20 = s.err.value ∧
    w.extractLsb' 21 3 = 0 ∧ w.extractLsb' 24 7 = s.note ∧ w.getLsbD 31 = false ∧
    w.extractLsb' 32 16 = s.blockLen - s.ticksDone ∧ w.extractLsb' 48 16 = 0

/-- 40_control.md R130, R131: READ_STATUS responds STATUS and changes nothing, in any state; CLEAR_STATUS clears the five
error bits and changes nothing else, in any state; after reset STATUS is 0x000000003C000002. -/
def Obligations.StatusIsReadAndCleared : Prop :=
  (∀ d : DataWord, decode ⟨0xA0000000#32, d⟩ = .command .readStatus ∧ decode ⟨0xD0000000#32, d⟩ = .command .clearStatus) ∧
  (∀ s : State, exec .readStatus s = .next { s with responses := s.responses ++ [statusWord s] }) ∧
  (∀ s : State, exec .clearStatus s = .next
    { s with err := { rate := false, seq := false, cmd := false, addr := false, value := false } }) ∧
  exec .readStatus State.reset = .next { State.reset with responses := [0x000000003C000002#64] }

/-- 40_control.md R132, R134: READ_PARAM responds the committed or the requested value, READ_CONFIG the register; an
address without a register raises ERR_ADDR and responds 0; nothing else changes. The registers stand in the order of their
addresses (10_state.md R27, R30). -/
def Obligations.RegisterReadsRespond : Prop :=
  ∀ (a : Nat) (s : State),
    let params := fun (v : ParamSet) =>
      [v.wave, v.cutoff, v.resonance, v.envmod, v.decay, v.accent, v.volume, v.morph, v.drive, v.bend, v.extmix]
    let configs :=
      [s.cfg.tuning, s.cfg.slideTime, s.cfg.normalPathTau, s.cfg.accentPathTau, s.cfg.morphHiMode]
    (a < 256 → ∀ d : DataWord,
      decode ⟨0xB0000000#32 ||| BitVec.ofNat 32 a, d⟩ = .command (.readParam false a) ∧
      decode ⟨0xB0000100#32 ||| BitVec.ofNat 32 a, d⟩ = .command (.readParam true a) ∧
      decode ⟨0xC0000000#32 ||| BitVec.ofNat 32 a, d⟩ = .command (.readConfig a)) ∧
    (10 < a → ∀ sel : Bool, exec (.readParam sel a) s = .next
      { s with err := { s.err with addr := true }, responses := s.responses ++ [0] }) ∧
    (4 < a → exec (.readConfig a) s = .next
      { s with err := { s.err with addr := true }, responses := s.responses ++ [0] }) ∧
    (a ≤ 10 → ∃ c q : F64, (params s.pC)[a]? = some c ∧ (params s.pQ)[a]? = some q ∧
      exec (.readParam false a) s = .next { s with responses := s.responses ++ [c.toBits] } ∧
      exec (.readParam true a) s = .next { s with responses := s.responses ++ [q.toBits] }) ∧
    (a ≤ 4 → ∃ r : F64, configs[a]? = some r ∧
      exec (.readConfig a) s = .next { s with responses := s.responses ++ [r.toBits] })

/-! ## Note commands -/

/-- 41_note.md R150: after the first TICK of an open block the four note commands set ERR_SEQ and nothing else; everywhere
else they are accepted, with no error bit set, whether or not a rate is valid. -/
def Obligations.NoteCommandsOnlyBeforeTheFirstTick : Prop :=
  ∀ (i : Instr) (s : State), i.opcode ∈ [0x5, 0x6, 0x7, 0x8] →
    (s.inBlock = true → s.ticksDone ≠ 0 → exec i s = .next { s with err := { s.err with seq := true } }) ∧
    (s.inBlock = false ∨ s.ticksDone = 0 → ∃ t : State, exec i s = .next t ∧ t.err = s.err)

/-- 41_note.md R152 to R155, 42_tick_osc.md R184: TRIGGER with a velocity above 0 writes exactly these registers; with a
velocity of 0 it does what RELEASE does; after the first TICK of a block it sets ERR_SEQ alone. -/
def Obligations.TriggerStartsANote : Prop :=
  ∀ (note vel : Nat) (s : State), note < 128 → vel < 128 →
    (s.inBlock = true → s.ticksDone ≠ 0 →
      exec (.trigger note vel) s = .next { s with err := { s.err with seq := true } }) ∧
    ((s.inBlock = false ∨ s.ticksDone = 0) → vel = 0 → exec (.trigger note vel) s = exec .release s) ∧
    ((s.inBlock = false ∨ s.ticksDone = 0) → vel ≠ 0 → ∃ n : BitVec 7, n.toNat = note ∧
      exec (.trigger note vel) s = .next
        { s with
          note := n
          accent := decide (s.sta.accentThreshold ≤ vel)
          noteState := .sounding
          idle := false
          slideF :=
            s.cfg.tuning.mul
              (pow2F s.sta ((((F64.ofNat note).add s.pC.bend).sub s.sta.refNote).div (F64.ofNat 12)))
          mStage := .ramp
          aStage := .attack })

/-- 41_note.md R156, R158: SLIDE writes NOTE, and NOTE_STATE unless it is Silent; after the first TICK of a block it sets
ERR_SEQ alone. -/
def Obligations.SlideRetunesOnly : Prop :=
  ∀ (note : Nat) (s : State), note < 128 →
    (s.inBlock = true → s.ticksDone ≠ 0 → exec (.slide note) s = .next { s with err := { s.err with seq := true } }) ∧
    ((s.inBlock = false ∨ s.ticksDone = 0) → ∃ n : BitVec 7, n.toNat = note ∧
      (s.noteState = .silent → exec (.slide note) s = .next { s with note := n }) ∧
      (s.noteState ≠ .silent → exec (.slide note) s = .next { s with note := n, noteState := .sliding }))

/-- 41_note.md R159, R162, R163: RELEASE and the two modes of ALL_OFF by their pseudocode, with everything they write; after
the first TICK of a block they set ERR_SEQ alone. In CLEAR mode this includes levels that R162's corner case would leave
alone while Silent and idle: that the pseudocode goes before the corner case is the model's choice (log 23). -/
def Obligations.ReleaseAndAllOff : Prop :=
  (∀ s : State, s.inBlock = true → s.ticksDone ≠ 0 →
    exec .release s = .next { s with err := { s.err with seq := true } } ∧
    exec .allOff s = .next { s with err := { s.err with seq := true } }) ∧
  ∀ s : State, (s.inBlock = false ∨ s.ticksDone = 0) →
    (s.aStage = .attack ∨ s.aStage = .decay ∨ s.aStage = .sustain →
      exec .release s = .next { s with noteState := .silent, aStage := .release }) ∧
    (s.aStage = .idle ∨ s.aStage = .release → exec .release s = .next { s with noteState := .silent }) ∧
    (s.sta.allOffMode = .release → exec .allOff s = exec .release s) ∧
    (s.sta.allOffMode = .clear →
      exec .allOff s = .next
        { s with
          noteState := .silent
          aStage := .idle
          aLevel := F64.zero
          mStage := .idle
          mLevel := F64.zero
          pn := F64.zero
          pa := F64.zero })

/-- 41_note.md R151: the note state machine, for note commands that are accepted, and no TICK moves it. -/
def Obligations.NoteStateMachine : Prop :=
  ∀ s t : State,
    (∀ d : DataWord, exec (.tick d) s = .next t → t.noteState = s.noteState) ∧
    ((s.inBlock = false ∨ s.ticksDone = 0) →
      (∀ note vel : Nat, exec (.trigger note vel) s = .next t →
        t.noteState = if vel = 0 then .silent else .sounding) ∧
      (∀ note : Nat, exec (.slide note) s = .next t →
        t.noteState = match s.noteState with | .silent => .silent | .sounding => .sliding | .sliding => .sliding) ∧
      (exec .release s = .next t → t.noteState = .silent) ∧
      (exec .allOff s = .next t → t.noteState = .silent))

/-- 41_note.md R164, R166: what no note command changes. -/
def Obligations.NoteCommandsLeaveTheRest : Prop :=
  ∀ (i : Instr) (s t : State), i.opcode ∈ [0x5, 0x6, 0x7, 0x8] → exec i s = .next t →
    t.phase = s.phase ∧ t.inc = s.inc ∧ t.fA = s.fA ∧ t.fB = s.fB ∧
    t.preHpf = s.preHpf ∧ t.aaLpf = s.aaLpf ∧ t.allpass = s.allpass ∧ t.postHpf = s.postHpf ∧ t.notch = s.notch ∧
    t.pC = s.pC ∧ t.pQ = s.pQ ∧ t.pE = s.pE ∧ t.cfg = s.cfg ∧ t.fs = s.fs ∧ t.rateValid = s.rateValid ∧
    t.inBlock = s.inBlock ∧ t.blockLen = s.blockLen ∧ t.ticksDone = s.ticksDone

/-! ## TICK: protocol, smoother, idle -/

/-- 42_tick_osc.md R180, 60_exceptions.md R332: a TICK with no block open raises ERR_SEQ, whatever its data word, and
responds 0. -/
def Obligations.TickWithoutABlockIsRejected : Prop :=
  ∀ (d : DataWord) (s : State), s.inBlock = false →
    exec (.tick d) s = .next { s with err := { s.err with seq := true }, responses := s.responses ++ [0] }

/-- 45_morph_chain.md R306, 40_control.md R124, R126: a TICK while idle responds +0.0 and changes nothing but the error bit
of a non-finite input and the block sequencer, and commits the parameters at the last TICK. -/
def Obligations.IdleTickIsSilent : Prop :=
  ∀ (d : DataWord) (s : State), s.inBlock = true → s.idle = true →
    let err := if (F64.fromBits d).isFinite then s.err else { s.err with value := true }
    (s.ticksDone.toNat + 1 = s.blockLen.toNat →
      exec (.tick d) s = .next
        { s with
          err := err
          responses := s.responses ++ [0]
          pC := s.pE
          inBlock := false
          blockLen := 0
          ticksDone := 0 }) ∧
    (s.ticksDone.toNat + 1 ≠ s.blockLen.toNat →
      exec (.tick d) s = .next
        { s with err := err, responses := s.responses ++ [0], ticksDone := s.ticksDone + 1 })

/-- 42_tick_osc.md R180, R181, R183: a TICK of an open, non-idle block completes on every data word; the sub-steps run in the
order of R180, each on the state the one before it left; exactly one response is emitted; the registers a TICK does not
write keep their values. -/
def Obligations.SoundingTickCompletes : Prop :=
  ∀ (d : DataWord) (s : State), s.inBlock = true → s.idle = false →
    let x := if (F64.fromBits d).isFinite then F64.fromBits d else F64.zero
    let v := smoothed s
    let s0 := if (F64.fromBits d).isFinite then s else { s with err := { s.err with value := true } }
    let env := envStep v (pitchStep v s0)
    let run := passes x v s.sta.os F64.zero (morphSetup v env.1.1 env.2)
    let out := outputStage run.1 env.1.2 v run.2
    let t := blockAdvance (idleCheck out.2)
    exec (.tick d) s = .next { t with responses := s.responses ++ [out.1.toBits] } ∧
    t.sta = s.sta ∧ t.port = s.port ∧ t.err = s0.err ∧ t.fs = s.fs ∧ t.rateValid = s.rateValid ∧
    t.pQ = s.pQ ∧ t.pE = s.pE ∧ t.cfg = s.cfg ∧ t.note = s.note ∧ t.accent = s.accent ∧ t.noteState = s.noteState ∧
    t.fB.h = s.fB.h ∧ t.fA.h = s.fA.h

/-- 40_control.md R123: the value of every parameter in the TICK of index i of a block of N. -/
def Obligations.SmootherIsLinear : Prop :=
  ∀ (s : State) (j : ParamId),
    let i := s.ticksDone.toNat + 1
    let n := s.blockLen.toNat
    (i = n → (smoothed s).get j = s.pE.get j) ∧
    (i < n → (smoothed s).get j =
      (s.pC.get j).add ((((s.pE.get j).sub (s.pC.get j)).mul (F64.ofNat i)).div (F64.ofNat n)))

/-- 40_control.md R125, its first property: between equal ends every value of the sequence equals them. -/
def Obligations.SmootherHoldsAConstant : Prop :=
  ∀ (c : F64) (i n : Nat), c.isFinite = true → 1 ≤ i → i ≤ n → n ≤ 65535 → (smoothedValue c c i n).eq c = true

/-- 40_control.md R125, its four properties as written, for the parameter ranges of the reference configuration. EXPECTED TO
FAIL: between two neighbouring binary64 numbers there is no third, so the first value of a block of 2 is one of the two
ends. `SmootherIsMonotonic` is what holds. -/
def Obligations.SmootherPropertiesAsWritten : Prop :=
  ∀ (j : ParamId) (c e : F64) (n : Nat),
    Between (Config.REFCFG.paramMin.get j) (Config.REFCFG.paramMax.get j) c →
    Between (Config.REFCFG.paramMin.get j) (Config.REFCFG.paramMax.get j) e → 1 ≤ n → n ≤ 65535 →
    let v := fun (i : Nat) => smoothedValue c e i n
    (c.eq e = true → ∀ i : Nat, 1 ≤ i → i ≤ n → (v i).eq c = true) ∧
    (2 ≤ n → c.lt e = true → c.lt (v 1) = true ∧ (v 1).lt e = true) ∧
    (2 ≤ n → e.lt c = true → e.lt (v 1) = true ∧ (v 1).lt c = true) ∧
    (c.lt e = true → ∀ i : Nat, 1 ≤ i → i < n → (v i).le (v (i + 1)) = true) ∧
    (e.lt c = true → ∀ i : Nat, 1 ≤ i → i < n → (v (i + 1)).le (v i) = true) ∧
    (n = 1 → v 1 = e)

/-- 40_control.md R125 and 10_state.md R28, without the strictness: every value of the sequence lies between the ends, the
ends included, and the sequence is monotonic; for ends of magnitude at most 20000, which every parameter range keeps. R125's
strictness is left out because rounding can break it (log 21). -/
def Obligations.SmootherIsMonotonic : Prop :=
  ∀ (c e : F64) (i n : Nat), c.abs.le (F64.ofNat 20000) = true → e.abs.le (F64.ofNat 20000) = true →
    1 ≤ i → i ≤ n → n ≤ 65535 →
    let v := fun (i : Nat) => smoothedValue c e i n
    (c.le e = true → c.le (v i) = true ∧ (v i).le e = true ∧ (i < n → (v i).le (v (i + 1)) = true)) ∧
    (e.le c = true → e.le (v i) = true ∧ (v i).le c = true ∧ (i < n → (v (i + 1)).le (v i) = true))

/-- 40_control.md R127: the worked example, in bits: 1000 to 2000 over 4 TICKs gives 1250, 1500, 1750, 2000; over 3 TICKs
1333.3333333333333, 1666.6666666666665, 2000. -/
def Obligations.SmootherWorkedExample : Prop :=
  (List.range 4).map (fun k => (smoothedValue (F64.ofNat 1000) (F64.ofNat 2000) (k + 1) 4).toBits) =
    [0x4093880000000000#64, 0x4097700000000000#64, 0x409B580000000000#64, 0x409F400000000000#64] ∧
  (List.range 3).map (fun k => (smoothedValue (F64.ofNat 1000) (F64.ofNat 2000) (k + 1) 3).toBits) =
    [0x4094D55555555555#64, 0x409A0AAAAAAAAAAA#64, 0x409F400000000000#64]

/-- 40_control.md R119, R121, R126: a block of n samples takes exactly n TICKs, whatever their inputs and whether or not it
sounds: before the last one it is open, has counted them, and the committed values stand; after it it is closed and the
block-end values are committed; each TICK has responded once. No other command stands between the TICKs here. -/
def Obligations.BlockClosesAfterItsTicks : Prop :=
  ∀ (s : State) (ds : List DataWord), s.inBlock = true → s.ticksDone = 0 → 1 ≤ ds.length →
    ds.length ≤ s.blockLen.toNat →
    ∃ t : State, runCommands (ds.map Instr.tick) s = some t ∧
      t.responses.length = s.responses.length + ds.length ∧ t.pE = s.pE ∧
      (ds.length < s.blockLen.toNat →
        t.inBlock = true ∧ t.ticksDone.toNat = ds.length ∧ t.blockLen = s.blockLen ∧ t.pC = s.pC) ∧
      (ds.length = s.blockLen.toNat →
        t.inBlock = false ∧ t.ticksDone = 0 ∧ t.blockLen = 0 ∧ t.pC = s.pE)

/-- 45_morph_chain.md R308, R309, 41_note.md R158: a block that is idle with no note held stays idle and every TICK responds 0, through any commands that contain no
TRIGGER: the responses such a run adds by TICK are all 0. -/
def Obligations.IdleBlockStaysSilent : Prop :=
  ∀ (is : List Instr) (s : State), s.idle = true → (∀ i ∈ is, i.opcode ≠ 0x5) →
    ∃ t : State, runCommands is s = some t ∧ t.idle = true ∧ t.slideF = s.slideF ∧ t.phase = s.phase ∧
      ((∀ i ∈ is, i.opcode ≠ 0xA ∧ i.opcode ≠ 0xB ∧ i.opcode ≠ 0xC) →
        ∃ k : Nat, t.responses = s.responses ++ List.replicate k 0)

/-! ## Pitch path and oscillator -/

/-- 42_tick_osc.md R184, R185, R186: the pitch step of a TICK, and that it writes SLIDE_F and INC alone. That the coefficient is
held to [0, 1] with an EXP other than the reference is the model's choice (log 24). -/
def Obligations.PitchStepGlides : Prop :=
  ∀ (v : ParamSet) (s : State),
    let target :=
      s.cfg.tuning.mul (pow2F s.sta ((((F64.ofNat s.note.toNat).add v.bend).sub s.sta.refNote).div (F64.ofNat 12)))
    let hold := fun (c : F64) => if s.sta.expFn = .reference then c else c.clamp F64.zero F64.one
    let c :=
      hold (if s.cfg.slideTime.eq F64.zero then F64.one
        else F64.one.sub (expF s.sta ((F64.ofNat 1000).neg.div (s.cfg.slideTime.mul s.fs))))
    let f := s.slideF.add (c.mul (target.sub s.slideF))
    let q := f.div ((F64.ofNat s.sta.os).mul s.fs)
    pitchStep v s = { s with slideF := f, inc := if q.le s.sta.incMax then q else s.sta.incMax }

/-- 42_tick_osc.md R188, word for word. EXPECTED TO FAIL: the phase 1 - 2^-53 and the increment 0.5 have the exact sum
1.5 - 2^-53, a tie between 1.5 - 2^-52 and 1.5, which 00_scope.md R12 rounds to the even 1.5; the rounded sum is then not
below 1.5 and the wrapped phase is 0.5 itself. `PhaseStaysInTheUnitInterval` is what holds. -/
def Obligations.PhaseInvariantAsWritten : Prop :=
  ∀ phase inc : F64, F64.zero.le phase = true → phase.lt F64.one = true → F64.zero.le inc = true →
    inc.le (F64.one.div (F64.ofNat 2)) = true →
    F64.zero.le (advancePhase phase inc) = true ∧ (advancePhase phase inc).lt F64.one = true ∧
    (phase.add inc).lt ((F64.ofNat 3).div (F64.ofNat 2)) = true ∧
    (F64.one.le (phase.add inc) = true →
      (advancePhase phase inc).value = (phase.add inc).value - F64.one.value ∧
      (advancePhase phase inc).lt (F64.one.div (F64.ofNat 2)) = true) ∧
    (phase.add inc = F64.one → advancePhase phase inc = F64.zero)

/-- 42_tick_osc.md R187, R188 with its two bounds closed: the phase stays in [0, 1); the rounded sum is at most 1.5; where it
wraps the subtraction is exact and the phase is at most 0.5; a sum of exactly 1 wraps to 0. R188's bounds as written fail in
one corner (log 21). -/
def Obligations.PhaseStaysInTheUnitInterval : Prop :=
  ∀ phase inc : F64, F64.zero.le phase = true → phase.lt F64.one = true → F64.zero.le inc = true →
    inc.le (F64.one.div (F64.ofNat 2)) = true →
    F64.zero.le (advancePhase phase inc) = true ∧ (advancePhase phase inc).lt F64.one = true ∧
    (phase.add inc).le ((F64.ofNat 3).div (F64.ofNat 2)) = true ∧
    (F64.one.le (phase.add inc) = true →
      (advancePhase phase inc).value = (phase.add inc).value - F64.one.value ∧
      (advancePhase phase inc).le (F64.one.div (F64.ofNat 2)) = true) ∧
    (phase.add inc = F64.one → advancePhase phase inc = F64.zero)

/-- 42_tick_osc.md R187, R189, R192: a pass advances the phase, then reads it; it writes PHASE alone; with the reference
waveforms the two shapes are the naive saw and square. -/
def Obligations.OscillatorPass : Prop :=
  ∀ (v : ParamSet) (s : State),
    let sum := s.phase.add s.inc
    let ph := if F64.one.le sum then sum.sub F64.one else sum
    oscPass v s =
      (((F64.one.sub v.wave).mul (waveA s.sta ph s.inc)).add (v.wave.mul (waveB s.sta ph s.inc)), { s with phase := ph }) ∧
    (s.sta.waveA = .reference → waveA s.sta ph s.inc = ((F64.ofNat 2).mul ph).sub F64.one) ∧
    (s.sta.waveB = .reference →
      waveB s.sta ph s.inc = if ph.lt (F64.one.div (F64.ofNat 2)) then F64.one else F64.one.neg)

/-! ## Envelopes -/

/-- 43_envelopes.md R213, R223; 00_scope.md R14: the main envelope step, stage by stage, its decay factor written out; it
writes M_LEVEL and M_STAGE alone. That the factor is held to [0, 1] with an EXP other than the reference is the model's
choice (log 24). -/
def Obligations.MainEnvelopeStep : Prop :=
  ∀ (tauD : F64) (s : State),
    let up :=
      if s.sta.mainRampMs.eq F64.zero then F64.one
      else F64.one.min (s.mLevel.add ((F64.ofNat 1000).div (s.sta.mainRampMs.mul s.fs)))
    let hold := fun (c : F64) => if s.sta.expFn = .reference then c else c.clamp F64.zero F64.one
    let factor :=
      hold (if tauD.eq F64.zero then F64.zero else expF s.sta ((F64.ofNat 1000).neg.div (tauD.mul s.fs)))
    let down := s.mLevel.mul factor
    (s.mStage = .ramp → F64.one.le up = true → mainEnvStep tauD s = { s with mLevel := up, mStage := .decay }) ∧
    (s.mStage = .ramp → F64.one.le up = false → mainEnvStep tauD s = { s with mLevel := up }) ∧
    (s.mStage = .decay → down.le s.sta.envEps = true →
      mainEnvStep tauD s = { s with mLevel := F64.zero, mStage := .idle }) ∧
    (s.mStage = .decay → down.le s.sta.envEps = false → mainEnvStep tauD s = { s with mLevel := down }) ∧
    (s.mStage = .idle → mainEnvStep tauD s = s)

/-- 43_envelopes.md R221, R222; 00_scope.md R14: the amplitude envelope step, stage by stage, its decay factors written out;
it writes A_LEVEL and A_STAGE alone. That a factor is held to [0, 1] with an EXP other than the reference is the
model's choice (log 24). -/
def Obligations.AmplitudeEnvelopeStep : Prop :=
  ∀ s : State,
    let sus := s.sta.ampSustain
    let up :=
      if s.sta.ampAttackMs.eq F64.zero then F64.one
      else F64.one.min (s.aLevel.add ((F64.ofNat 1000).div (s.sta.ampAttackMs.mul s.fs)))
    let hold := fun (c : F64) => if s.sta.expFn = .reference then c else c.clamp F64.zero F64.one
    let factor := fun (tau : F64) =>
      hold (if tau.eq F64.zero then F64.zero else expF s.sta ((F64.ofNat 1000).neg.div (tau.mul s.fs)))
    let dec := sus.add ((s.aLevel.sub sus).mul (factor s.sta.ampDecayMs))
    let rel := s.aLevel.mul (factor s.sta.ampReleaseMs)
    (s.aStage = .attack → F64.one.le up = true → ampEnvStep s = { s with aLevel := up, aStage := .decay }) ∧
    (s.aStage = .attack → F64.one.le up = false → ampEnvStep s = { s with aLevel := up }) ∧
    (s.aStage = .decay → (dec.sub sus).le s.sta.envEps = true →
      ampEnvStep s = { s with aLevel := sus, aStage := .sustain }) ∧
    (s.aStage = .decay → (dec.sub sus).le s.sta.envEps = false → ampEnvStep s = { s with aLevel := dec }) ∧
    (s.aStage = .sustain → ampEnvStep s = { s with aLevel := sus }) ∧
    (s.aStage = .release → rel.le s.sta.envEps = true →
      ampEnvStep s = { s with aLevel := F64.zero, aStage := .idle }) ∧
    (s.aStage = .release → rel.le s.sta.envEps = false → ampEnvStep s = { s with aLevel := rel }) ∧
    (s.aStage = .idle → ampEnvStep s = s)

/-- 43_envelopes.md R215: the normalizer of a modulation path; its cases exclude each other, and it is at least 1 always. The
formula stands wherever it is at least 1; what stands elsewhere, and where the quotient of the time constants rounds to no
positive finite Num, is the model's choice (log 6). -/
def Obligations.PathNormalizer : Prop :=
  ∀ (p : StaticParams) (tauP tauD : F64),
    (tauP.eq F64.zero = true → normalizer p tauP tauD = F64.one) ∧
    (tauP.eq F64.zero = false → tauP.eq tauD = true → normalizer p tauP tauD = expF p F64.one) ∧
    (tauP.eq F64.zero = false → tauP.eq tauD = false →
      let r := tauP.div tauD
      let y := expF p (((r.div (F64.one.sub r)).neg).mul (lnF p r))
      (F64.zero.lt r = true → r.isFinite = true → normalizer p tauP tauD = if F64.one.le y then y else F64.one) ∧
      (F64.zero.lt r = false ∨ r.isFinite = false →
        (normalizer p tauP tauD).le (if r.isZero then expF p F64.one else F64.ofNat (2 ^ 512)) = true)) ∧
    F64.one.le (normalizer p tauP tauD) = true

/-- 43_envelopes.md R212, R214, R217, R218, R227, R228, R229: the envelope step in its order, with what it returns, and
that it writes the envelope registers alone. That a coefficient is held to [0, 1] with an EXP other than the
reference is the model's choice (log 24). -/
def Obligations.EnvelopeStep : Prop :=
  ∀ (v : ParamSet) (s : State),
    let p := s.sta
    let hold := fun (c : F64) => if p.expFn = .reference then c else c.clamp F64.zero F64.one
    let lag := fun (tau : F64) =>
      hold (if tau.eq F64.zero then F64.one else F64.one.sub (expF p ((F64.ofNat 1000).neg.div (tau.mul s.fs))))
    let tauD := if s.accent then p.accentDecayMs else v.decay
    let m := mainEnvStep tauD s
    let pn := s.pn.add ((lag s.cfg.normalPathTau).mul (m.mLevel.sub s.pn))
    let pa := s.pa.add ((lag s.cfg.accentPathTau).mul (m.mLevel.sub s.pa))
    let nn := normalizer p s.cfg.normalPathTau tauD
    let na := normalizer p s.cfg.accentPathTau tauD
    let oct :=
      ((((v.envmod.div (F64.ofNat 100)).mul p.envmodOct).mul nn).mul pn).add
        (if s.accent then (((v.accent.div (F64.ofNat 100)).mul p.accentOct).mul na).mul pa else F64.zero)
    let fc := (v.cutoff.mul (pow2F p oct)).clamp p.fcMin ((p.fcMaxRatio.mul (F64.ofNat p.os)).mul s.fs)
    let a := ampEnvStep s
    let w := if s.accent then p.ampAccAmt.mul (v.accent.div (F64.ofNat 100)) else p.ampNormAmt
    let raw := a.aLevel.add (w.mul m.mLevel)
    let c := hold (F64.one.sub (expF p ((((F64.ofNat 2).neg.mul F64.pi).mul p.declickFc).div s.fs)))
    let dk := s.dk.add (c.mul (raw.sub s.dk))
    envStep v s =
      ((fc, dk),
        { s with
          mLevel := m.mLevel
          mStage := m.mStage
          pn := pn
          pa := pa
          aLevel := a.aLevel
          aStage := a.aStage
          dk := dk })

/-! ## Filters -/

/-- 44_filter.md R257: a change of mode clears the five delay states, a call with the current mode changes nothing. -/
def Obligations.ModeChangeClearsTheDelays : Prop :=
  ∀ (m : FilterMode) (f : FilterInst),
    (m = f.mode → setMode m f = f) ∧
    (m ≠ f.mode →
      setMode m f =
        { f with mode := m, y1 := F64.zero, y2 := F64.zero, y3 := F64.zero, y4 := F64.zero, fbs := F64.zero })

/-- 44_filter.md R261, R262, R264: the approximate derivation runs only when an input changed; with the reference
COEF_APPROX its results are the exact functions of R259; the reference RES_SKEW is (1 - EXP(-3 q)) / (1 - EXP(-3)). That it
maps 0 to 0, and that a value outside [0, 1] gives way to `q`, whichever EXP is configured, is the model's choice (log 10); so is that G
is held to [0, 1] with an EXP other than the reference (log 24). -/
def Obligations.CoefficientsFollowTheirInputs : Prop :=
  ∀ (p : StaticParams) (fc res drv r : F64) (f : FilterInst),
    let c := coefApprox p fc res drv r
    (fc.eq f.cut = true → res.eq f.resRaw = true → drv.eq f.driveDb = true → setParams p fc res drv r f = f) ∧
    ((fc.eq f.cut = false ∨ res.eq f.resRaw = false ∨ drv.eq f.driveDb = false) →
      setParams p fc res drv r f =
        { f with
          cut := fc
          resRaw := res
          driveDb := drv
          resSkew := resSkewF p (res.div (F64.ofNat 100))
          g := c.g
          k := c.k
          dl := c.dl }) ∧
    (p.coefApprox = .reference →
      c.g = (if p.expFn = .reference then poleCoef p fc r else (poleCoef p fc r).clamp F64.zero F64.one) ∧ c.k = p.kScale.mul (resSkewF p (res.div (F64.ofNat 100))) ∧
        c.dl = pow10F p (drv.div (F64.ofNat 20))) ∧
    (p.resSkew = .reference → ∀ q : F64,
      let unit := fun (x : F64) => F64.zero.le x && x.le F64.one
      let y :=
        if q.isZero then F64.zero
        else (F64.one.sub (expF p ((F64.ofNat 3).neg.mul q))).div (F64.one.sub (expF p (F64.ofNat 3).neg))
      resSkewF p q = if unit q && !unit y then q else y)

/-- 44_filter.md R265, R268: one filter step: the output, and the five delay states it writes and nothing else; FLAT returns
its input and changes nothing. -/
def Obligations.FilterStep : Prop :=
  ∀ (p : StaticParams) (f : FilterInst) (x : F64),
    let pole := fun (g y i : F64) => y.add (g.mul (i.sub y))
    let u := shaper p ((f.dl.mul x).sub (f.k.mul (f.y4.sub f.fbs)))
    let y1 := pole f.g f.y1 u
    let y2 := pole f.g f.y2 y1
    let y3 := pole f.g f.y3 y2
    let y4 := pole f.g f.y4 y3
    let row := modeRow p f.mode
    (f.mode = .flat → filterStep p f x = (x, f)) ∧
    (f.mode ≠ .flat →
      filterStep p f x =
        (row.gain.mul
            (((((row.c0.mul u).add (row.c1.mul y1)).add (row.c2.mul y2)).add (row.c3.mul y3)).add (row.c4.mul y4)),
          { f with fbs := pole f.h f.fbs f.y4, y1 := y1, y2 := y2, y3 := y3, y4 := y4 }))

/-- 44_filter.md R271, R272: the worked examples of one step, in bits: from states 0 with G = 0.5, K = H = 0, DL = 1 the
sections hold 0.5, 0.25, 0.125, 0.0625 and the modes LP6, LP24, LADDER, HP6, HP12, HP24, BP12_12 answer 0.5, 0.0625,
0.0625, 0.5, 0.25, 0.0625, 0.0625; with K = 1 and Y4 = 0.5 they hold 0.25, 0.125, 0.0625, 0.28125. The weights used are the
fifteen rows of the reference MODE_TABLE (R255), each with gain 1 (R256). -/
def Obligations.FilterStepWorkedExamples : Prop :=
  let p := Config.REFCFG
  let half : F64 := ⟨0x3FE0000000000000#64⟩
  let f := fun (m : FilterMode) =>
    { FilterInst.reset p m with g := half, dl := F64.one }
  let g := { f .ladder with k := F64.one, y4 := half }
  let states := fun (f : FilterInst) => [f.y1.toBits, f.y2.toBits, f.y3.toBits, f.y4.toBits]
  states (filterStep p (f .ladder) F64.one).2 =
    [0x3FE0000000000000#64, 0x3FD0000000000000#64, 0x3FC0000000000000#64, 0x3FB0000000000000#64] ∧
  states (filterStep p (filterStep p (f .ladder) F64.one).2 F64.one).2 =
    [0x3FE8000000000000#64, 0x3FE0000000000000#64, 0x3FD4000000000000#64, 0x3FC8000000000000#64] ∧
  [FilterMode.lp6, .lp24, .ladder, .hp6, .hp12, .hp24, .bp12_12].map (fun m => (filterStep p (f m) F64.one).1.toBits) =
    [0x3FE0000000000000#64, 0x3FB0000000000000#64, 0x3FB0000000000000#64, 0x3FE0000000000000#64,
      0x3FD0000000000000#64, 0x3FB0000000000000#64, 0x3FB0000000000000#64] ∧
  states (filterStep p g F64.one).2 =
    [0x3FD0000000000000#64, 0x3FC0000000000000#64, 0x3FB0000000000000#64, 0x3FD2000000000000#64] ∧
  (let n := F64.ofNat
   let m := fun (k : Nat) => (F64.ofNat k).neg
   modeRow p .flat = ⟨n 1, n 0, n 0, n 0, n 0, n 1⟩ ∧
   modeRow p .lp6 = ⟨n 0, n 1, n 0, n 0, n 0, n 1⟩ ∧
   modeRow p .lp12 = ⟨n 0, n 0, n 1, n 0, n 0, n 1⟩ ∧
   modeRow p .lp18 = ⟨n 0, n 0, n 0, n 1, n 0, n 1⟩ ∧
   modeRow p .lp24 = ⟨n 0, n 0, n 0, n 0, n 1, n 1⟩ ∧
   modeRow p .hp6 = ⟨n 1, m 1, n 0, n 0, n 0, n 1⟩ ∧
   modeRow p .hp12 = ⟨n 1, m 2, n 1, n 0, n 0, n 1⟩ ∧
   modeRow p .hp18 = ⟨n 1, m 3, n 3, m 1, n 0, n 1⟩ ∧
   modeRow p .hp24 = ⟨n 1, m 4, n 6, m 4, n 1, n 1⟩ ∧
   modeRow p .bp12_12 = ⟨n 0, n 0, n 1, m 2, n 1, n 1⟩ ∧
   modeRow p .bp6_18 = ⟨n 0, n 0, n 0, n 1, m 1, n 1⟩ ∧
   modeRow p .bp18_6 = ⟨n 0, n 1, m 3, n 3, m 1, n 1⟩ ∧
   modeRow p .bp6_12 = ⟨n 0, n 0, n 1, m 1, n 0, n 1⟩ ∧
   modeRow p .bp12_6 = ⟨n 0, n 1, m 2, n 1, n 0, n 1⟩ ∧
   modeRow p .ladder = ⟨n 0, n 0, n 0, n 0, n 1, n 1⟩)

/-! ## Morph engine, chain, output -/

/-- 45_morph_chain.md R290, R291, R292: the morph setup; a MORPH_HI_MODE of 6.0 is HP12, of 8.0 HP24. It writes the two
filter instances alone. -/
def Obligations.MorphSetupChoosesTheModes : Prop :=
  ∀ (v : ParamSet) (fc : F64) (s : State),
    let low := v.morph.le s.sta.morphSplit
    let r := (F64.ofNat s.sta.os).mul s.fs
    let set := fun (m : FilterMode) (f : FilterInst) => setParams s.sta fc v.resonance v.drive r (setMode m f)
    (low = true → morphSetup v fc s = { s with fA := set .ladder s.fA, fB := set s.sta.morphBMode s.fB }) ∧
    (low = false → s.cfg.morphHiMode = F64.ofNat 6 →
      morphSetup v fc s = { s with fA := set .hp12 s.fA, fB := set s.sta.morphBMode s.fB }) ∧
    (low = false → s.cfg.morphHiMode = F64.ofNat 8 →
      morphSetup v fc s = { s with fA := set .hp24 s.fA, fB := set s.sta.morphBMode s.fB })

/-- 45_morph_chain.md R290, R291, R293: the morph output of one pass. -/
def Obligations.MorphOutputCrossfades : Prop :=
  ∀ (pos xin : F64) (s : State),
    let low := pos.le s.sta.morphSplit
    let raw := if low then (F64.ofNat 2).mul pos else ((F64.ofNat 2).mul pos).sub F64.one
    let f := if raw.le s.sta.fracMax then raw else s.sta.fracMax
    let a := filterStep s.sta s.fA xin
    let b := filterStep s.sta s.fB xin
    let yB := s.sta.filterBGain.mul b.1
    morphOut pos xin s =
      (if low then ((F64.one.sub f).mul a.1).add (f.mul yB) else (f.mul a.1).add ((F64.one.sub f).mul yB),
        { s with fA := a.2, fB := b.2 })

/-- 45_morph_chain.md R294: the branch and the two weights at the sample positions 0, 0.25, 0.5, 0.75, 1, in bits. -/
def Obligations.MorphWeightsAtSamplePositions : Prop :=
  let p := Config.REFCFG
  let w := fun (bits : DataWord) =>
    let pos : F64 := ⟨bits⟩
    (morphLow p pos, (morphFraction p pos).toBits, (F64.one.sub (morphFraction p pos)).toBits)
  w 0x0000000000000000#64 = (true, 0x0000000000000000#64, 0x3FF0000000000000#64) ∧
  w 0x3FD0000000000000#64 = (true, 0x3FE0000000000000#64, 0x3FE0000000000000#64) ∧
  w 0x3FE0000000000000#64 = (true, 0x3FEFFFFFFFFFFFFF#64, 0x3CA0000000000000#64) ∧
  w 0x3FE0000000000001#64 = (false, 0x3CB0000000000000#64, 0x3FEFFFFFFFFFFFFE#64) ∧
  w 0x3FE8000000000000#64 = (false, 0x3FE0000000000000#64, 0x3FE0000000000000#64) ∧
  w 0x3FF0000000000000#64 = (false, 0x3FEFFFFFFFFFFFFF#64, 0x3CA0000000000000#64)

/-- 45_morph_chain.md R296, R298, R299: one pass through the chain, and one biquad section of it; a stage steps every
section once, in order, each section's output the next one's input, and answers the last one's; so stages in a row are one
stage. That a stage of no section, which 10_state.md R38 rules out, passes its input is the model's choice (log 13). -/
def Obligations.PassChain : Prop :=
  (∀ (osc x : F64) (v : ParamSet) (s : State),
    let pre := auxRun s.preHpf osc
    let xin := ((F64.one.sub v.extmix).mul pre.1).add (v.extmix.mul x)
    let y := morphOut v.morph xin { s with preHpf := pre.2 }
    let z := auxRun s.aaLpf y.1
    passChain osc x v s = (z.1, { s with preHpf := pre.2, fA := y.2.fA, fB := y.2.fB, aaLpf := z.2 })) ∧
  (∀ (b : Biquad) (x : F64),
    let c := b.coefs
    let out :=
      ((((c.b0.mul x).add (c.b1.mul b.x1)).add (c.b2.mul b.x2)).sub (c.a1.mul b.z1)).sub (c.a2.mul b.z2)
    biquadStep b x = (out, { x1 := x, x2 := b.x1, z1 := out, z2 := b.z1, coefs := c })) ∧
  (∀ x : F64, auxRun [] x = (x, [])) ∧
  (∀ (b : Biquad) (bs : List Biquad) (x : F64),
    let here := biquadStep b x
    let rest := auxRun bs here.1
    auxRun (b :: bs) x = (rest.1, here.2 :: rest.2)) ∧
  (∀ (bs cs : List Biquad) (x : F64),
    auxRun (bs ++ cs) x =
      ((auxRun cs (auxRun bs x).1).1, (auxRun bs x).2 ++ (auxRun cs (auxRun bs x).1).2) ∧
    (auxRun bs x).2.length = bs.length)

/-- 45_morph_chain.md R301, 42_tick_osc.md R180: of the passes of a TICK only the last one's value goes on, and the state is
that of all of them: one pass more is the last pass. A pass is the oscillator's pass, then the chain on its sample with the
TICK's `x` and `v`. No pass at all, which OS = 0 would mean, is the model's choice (log 13). -/
def Obligations.OnlyTheLastPassIsHeard : Prop :=
  ∀ (x : F64) (v : ParamSet) (n : Nat) (z : F64) (s : State),
    passes x v (n + 1) z s = onePass x v (passes x v n z s).2 ∧
    passes x v 0 z s = (z, s) ∧
    onePass x v s = passChain (oscPass v s).1 x v (oscPass v s).2

/-- 45_morph_chain.md R302, R307: the output stage and the idle check, with everything they write; the gain at -60, 0 and
6 dB with the reference POW10, in bits. -/
def Obligations.OutputStageAndIdleCheck : Prop :=
  (∀ p : StaticParams, p.pow10Fn = .reference →
    pow10F p ((F64.ofNat 60).neg.div (F64.ofNat 20)) = ⟨0x3F50624DD2F1A9FC#64⟩ ∧
    pow10F p (F64.zero.div (F64.ofNat 20)) = F64.one ∧
    pow10F p ((F64.ofNat 6).div (F64.ofNat 20)) = ⟨0x3FFFEC982D5BB8AF#64⟩) ∧
  (∀ (z amp : F64) (v : ParamSet) (s : State),
    let a := auxRun s.allpass z
    let h := auxRun s.postHpf a.1
    let n := auxRun s.notch h.1
    outputStage z amp v s =
      ((n.1.mul amp).mul (pow10F s.sta (v.volume.div (F64.ofNat 20))),
        { s with allpass := a.2, postHpf := h.2, notch := n.2 })) ∧
  (∀ s : State,
    (s.noteState = .silent ∧ s.aStage = .idle ∧ s.dk.abs.le s.sta.idleEps = true →
      idleCheck s = { s with idle := true, dk := F64.zero }) ∧
    (¬(s.noteState = .silent ∧ s.aStage = .idle ∧ s.dk.abs.le s.sta.idleEps = true) → idleCheck s = s))

/-! ## Reset and the whole machine -/

/-- 70_reset_and_hazards.md R361: the complete reset state. -/
def Obligations.ResetState : Prop :=
  let s := State.reset
  let z : F64 := ⟨0⟩
  let ps : ParamSet :=
    { wave := z, cutoff := F64.ofNat 1000, resonance := F64.ofNat 50, envmod := F64.ofNat 25, decay := F64.ofNat 400,
      accent := F64.ofNat 50, volume := z, morph := z, drive := z, bend := z, extmix := z }
  let filter := fun (m : FilterMode) =>
    (⟨m, z, z, z, z, z, z, z, z, z, F64.ofNat 1000, F64.ofNat 50, resSkewF s.sta ⟨0x3FE0000000000000#64⟩, z⟩ : FilterInst)
  let section1 : List Biquad :=
    [{ x1 := z, x2 := z, z1 := z, z2 := z, coefs := { b0 := z, b1 := z, b2 := z, a1 := z, a2 := z } }]
  s.err = { rate := false, seq := false, cmd := false, addr := false, value := false } ∧
  s.fs = z ∧ s.rateValid = false ∧ s.inBlock = false ∧ s.blockLen = 0 ∧ s.ticksDone = 0 ∧
  s.pC = ps ∧ s.pQ = ps ∧ s.pE = ps ∧
  s.cfg = { tuning := F64.ofNat 440, slideTime := F64.ofNat 60, normalPathTau := F64.ofNat 15,
            accentPathTau := F64.ofNat 5, morphHiMode := F64.ofNat 8 } ∧
  s.note = 60 ∧ s.accent = false ∧ s.noteState = .silent ∧
  s.slideF = z ∧ s.phase = z ∧ s.inc = z ∧
  s.mStage = .idle ∧ s.mLevel = z ∧ s.pn = z ∧ s.pa = z ∧ s.aStage = .idle ∧ s.aLevel = z ∧ s.dk = z ∧
  s.fA = filter .ladder ∧ s.fB = filter .bp12_12 ∧ FilterMode.ladder.code = 14 ∧ FilterMode.bp12_12.code = 9 ∧
  s.preHpf = section1 ∧ s.aaLpf = section1 ∧ s.allpass = section1 ∧ s.postHpf = section1 ∧ s.notch = section1 ∧
  s.idle = true ∧ statusWord s = 0x000000003C000002#64

/-- 70_reset_and_hazards.md R360, R361 on the model's reset event (log 18): whatever the state, reset gives the reset state of
the same static parameters; in the reference configuration that is the reset state. -/
def Obligations.ResetEventIsTheResetState : Prop :=
  ∀ s : State,
    resetEvent s = { State.resetWith s.sta with port := s.port, responses := s.responses } ∧
    (resetEvent s).sta = s.sta ∧ (resetEvent s).inBlock = false ∧ (resetEvent s).pC = s.sta.paramReset ∧
    (s.sta = Config.REFCFG → resetEvent s = { State.reset with port := s.port, responses := s.responses })

/-- The machine's invariant holds at reset. -/
def Obligations.InvariantHoldsAtReset : Prop := BlockInv State.reset

/-- 10_state.md R25, R28, R30, R38; 44_filter.md R258; 45_morph_chain.md R307: every step keeps the invariant, from every
state that has it: the block sequencer, the parameter ranges, the legal configuration values, the filters' modes, the
rate, the idle condition and the section counts. -/
def Obligations.StepKeepsTheInvariant : Prop :=
  ∀ s t : State, BlockInv s → step s = .next t → BlockInv t

/-- 10_state.md R20, 70_reset_and_hazards.md R360: no command changes the static parameters. -/
def Obligations.StaticParametersNeverChange : Prop :=
  ∀ s t : State, step s = .next t → t.sta = s.sta

/-- 10_state.md R22: an error bit that is set stays set through every command but CLEAR_STATUS. -/
def Obligations.ErrorBitsAreSticky : Prop :=
  ∀ (i : Instr) (s t : State) (e : ErrCode), i ≠ .clearStatus → exec i s = .next t →
    s.err.get e = true → t.err.get e = true

/-- 60_exceptions.md R334, 10_state.md R22, R41: no command's effect depends on the error bits. Every command but
READ_STATUS, which reads them, does from any error bits `e` what it does with none set, and the bits it then sets are added
to `e`; CLEAR_STATUS leaves none. -/
def Obligations.ErrorBitsDoNotMatter : Prop :=
  ∀ (i : Instr) (s : State), i ≠ .readStatus →
    let none : ErrBits := { rate := false, seq := false, cmd := false, addr := false, value := false }
    ∃ t : State, exec i { s with err := none } = .next t ∧
      ∀ e : ErrBits, exec i { s with err := e } = .next
        { t with
          err :=
            if i = .clearStatus then none
            else
              { rate := e.rate || t.err.rate
                seq := e.seq || t.err.seq
                cmd := e.cmd || t.err.cmd
                addr := e.addr || t.err.addr
                value := e.value || t.err.value } }

/-- 43_envelopes.md R226: the envelope step reads no oscillator, filter or auxiliary state: with those replaced by any others its results and
the envelope registers it leaves are the same. -/
def Obligations.EnvelopesReadNoOtherSubBlock : Prop :=
  ∀ (v : ParamSet) (s : State) (slideF phase inc : F64) (fA fB : FilterInst) (a b c d e : List Biquad),
    let other := fun (s : State) =>
      { s with
        slideF := slideF
        phase := phase
        inc := inc
        fA := fA
        fB := fB
        preHpf := a
        aaLpf := b
        allpass := c
        postHpf := d
        notch := e }
    envStep v (other s) = ((envStep v s).1, other (envStep v s).2)

/-! ## Arithmetic -/

/-- 00_scope.md R12: a sum of finite numbers is the finite number nearest to the exact sum, and of two equally near the one
with an even fraction; `value` counts units of 2^-1074. -/
def Obligations.SumIsRoundedToNearestEven : Prop :=
  ∀ x y : F64, x.isFinite = true → y.isFinite = true → (x.add y).isFinite = true →
    ∀ z : F64, z.isFinite = true →
      (x.value + y.value - (x.add y).value).natAbs ≤ (x.value + y.value - z.value).natAbs ∧
      ((x.value + y.value - (x.add y).value).natAbs = (x.value + y.value - z.value).natAbs →
        z.value = (x.add y).value ∨ (x.add y).fracOf % 2 = 0)

/-- 00_scope.md R12: a product of finite numbers is the finite number nearest to the exact product, ties to even. -/
def Obligations.ProductIsRoundedToNearestEven : Prop :=
  ∀ x y : F64, x.isFinite = true → y.isFinite = true → (x.mul y).isFinite = true →
    ∀ z : F64, z.isFinite = true →
      (x.value * y.value - (x.mul y).value * 2 ^ 1074).natAbs ≤ (x.value * y.value - z.value * 2 ^ 1074).natAbs ∧
      ((x.value * y.value - (x.mul y).value * 2 ^ 1074).natAbs = (x.value * y.value - z.value * 2 ^ 1074).natAbs →
        z.value = (x.mul y).value ∨ (x.mul y).fracOf % 2 = 0)

/-- 00_scope.md R12: a quotient of finite numbers, the divisor not 0, is the finite number nearest to the exact quotient, ties
to even; distances are compared after multiplying by the divisor. -/
def Obligations.QuotientIsRoundedToNearestEven : Prop :=
  ∀ x y : F64, x.isFinite = true → y.isFinite = true → y.isZero = false → (x.div y).isFinite = true →
    ∀ z : F64, z.isFinite = true →
      (x.value * 2 ^ 1074 - (x.div y).value * y.value).natAbs ≤ (x.value * 2 ^ 1074 - z.value * y.value).natAbs ∧
      ((x.value * 2 ^ 1074 - (x.div y).value * y.value).natAbs = (x.value * 2 ^ 1074 - z.value * y.value).natAbs →
        z.value = (x.div y).value ∨ (x.div y).fracOf % 2 = 0)
end

