-- ==== Sys2Proof/Laws/State.lean ====
section
/-! SUPPORT. One lemma per field per named update of State, each true by `rfl`: a proof reads a field of an updated
state without unfolding the update. -/

namespace Sys2Proof.Machine

/-! ## setErr -/

@[simp] theorem setErr_sta (e : ErrCode) (s : State) : (setErr e s).sta = s.sta := rfl
@[simp] theorem setErr_port (e : ErrCode) (s : State) : (setErr e s).port = s.port := rfl
@[simp] theorem setErr_responses (e : ErrCode) (s : State) : (setErr e s).responses = s.responses := rfl
@[simp] theorem setErr_err (e : ErrCode) (s : State) : (setErr e s).err = s.err.set e := rfl
@[simp] theorem setErr_fs (e : ErrCode) (s : State) : (setErr e s).fs = s.fs := rfl
@[simp] theorem setErr_rateValid (e : ErrCode) (s : State) : (setErr e s).rateValid = s.rateValid := rfl
@[simp] theorem setErr_inBlock (e : ErrCode) (s : State) : (setErr e s).inBlock = s.inBlock := rfl
@[simp] theorem setErr_blockLen (e : ErrCode) (s : State) : (setErr e s).blockLen = s.blockLen := rfl
@[simp] theorem setErr_ticksDone (e : ErrCode) (s : State) : (setErr e s).ticksDone = s.ticksDone := rfl
@[simp] theorem setErr_pC (e : ErrCode) (s : State) : (setErr e s).pC = s.pC := rfl
@[simp] theorem setErr_pQ (e : ErrCode) (s : State) : (setErr e s).pQ = s.pQ := rfl
@[simp] theorem setErr_pE (e : ErrCode) (s : State) : (setErr e s).pE = s.pE := rfl
@[simp] theorem setErr_cfg (e : ErrCode) (s : State) : (setErr e s).cfg = s.cfg := rfl
@[simp] theorem setErr_note (e : ErrCode) (s : State) : (setErr e s).note = s.note := rfl
@[simp] theorem setErr_accent (e : ErrCode) (s : State) : (setErr e s).accent = s.accent := rfl
@[simp] theorem setErr_noteState (e : ErrCode) (s : State) : (setErr e s).noteState = s.noteState := rfl
@[simp] theorem setErr_slideF (e : ErrCode) (s : State) : (setErr e s).slideF = s.slideF := rfl
@[simp] theorem setErr_phase (e : ErrCode) (s : State) : (setErr e s).phase = s.phase := rfl
@[simp] theorem setErr_inc (e : ErrCode) (s : State) : (setErr e s).inc = s.inc := rfl
@[simp] theorem setErr_mStage (e : ErrCode) (s : State) : (setErr e s).mStage = s.mStage := rfl
@[simp] theorem setErr_mLevel (e : ErrCode) (s : State) : (setErr e s).mLevel = s.mLevel := rfl
@[simp] theorem setErr_pn (e : ErrCode) (s : State) : (setErr e s).pn = s.pn := rfl
@[simp] theorem setErr_pa (e : ErrCode) (s : State) : (setErr e s).pa = s.pa := rfl
@[simp] theorem setErr_aStage (e : ErrCode) (s : State) : (setErr e s).aStage = s.aStage := rfl
@[simp] theorem setErr_aLevel (e : ErrCode) (s : State) : (setErr e s).aLevel = s.aLevel := rfl
@[simp] theorem setErr_dk (e : ErrCode) (s : State) : (setErr e s).dk = s.dk := rfl
@[simp] theorem setErr_fA (e : ErrCode) (s : State) : (setErr e s).fA = s.fA := rfl
@[simp] theorem setErr_fB (e : ErrCode) (s : State) : (setErr e s).fB = s.fB := rfl
@[simp] theorem setErr_preHpf (e : ErrCode) (s : State) : (setErr e s).preHpf = s.preHpf := rfl
@[simp] theorem setErr_aaLpf (e : ErrCode) (s : State) : (setErr e s).aaLpf = s.aaLpf := rfl
@[simp] theorem setErr_allpass (e : ErrCode) (s : State) : (setErr e s).allpass = s.allpass := rfl
@[simp] theorem setErr_postHpf (e : ErrCode) (s : State) : (setErr e s).postHpf = s.postHpf := rfl
@[simp] theorem setErr_notch (e : ErrCode) (s : State) : (setErr e s).notch = s.notch := rfl
@[simp] theorem setErr_idle (e : ErrCode) (s : State) : (setErr e s).idle = s.idle := rfl

/-! ## respond -/

@[simp] theorem respond_sta (v : DataWord) (s : State) : (respond v s).sta = s.sta := rfl
@[simp] theorem respond_port (v : DataWord) (s : State) : (respond v s).port = s.port := rfl
@[simp] theorem respond_responses (v : DataWord) (s : State) : (respond v s).responses = s.responses ++ [v] := rfl
@[simp] theorem respond_err (v : DataWord) (s : State) : (respond v s).err = s.err := rfl
@[simp] theorem respond_fs (v : DataWord) (s : State) : (respond v s).fs = s.fs := rfl
@[simp] theorem respond_rateValid (v : DataWord) (s : State) : (respond v s).rateValid = s.rateValid := rfl
@[simp] theorem respond_inBlock (v : DataWord) (s : State) : (respond v s).inBlock = s.inBlock := rfl
@[simp] theorem respond_blockLen (v : DataWord) (s : State) : (respond v s).blockLen = s.blockLen := rfl
@[simp] theorem respond_ticksDone (v : DataWord) (s : State) : (respond v s).ticksDone = s.ticksDone := rfl
@[simp] theorem respond_pC (v : DataWord) (s : State) : (respond v s).pC = s.pC := rfl
@[simp] theorem respond_pQ (v : DataWord) (s : State) : (respond v s).pQ = s.pQ := rfl
@[simp] theorem respond_pE (v : DataWord) (s : State) : (respond v s).pE = s.pE := rfl
@[simp] theorem respond_cfg (v : DataWord) (s : State) : (respond v s).cfg = s.cfg := rfl
@[simp] theorem respond_note (v : DataWord) (s : State) : (respond v s).note = s.note := rfl
@[simp] theorem respond_accent (v : DataWord) (s : State) : (respond v s).accent = s.accent := rfl
@[simp] theorem respond_noteState (v : DataWord) (s : State) : (respond v s).noteState = s.noteState := rfl
@[simp] theorem respond_slideF (v : DataWord) (s : State) : (respond v s).slideF = s.slideF := rfl
@[simp] theorem respond_phase (v : DataWord) (s : State) : (respond v s).phase = s.phase := rfl
@[simp] theorem respond_inc (v : DataWord) (s : State) : (respond v s).inc = s.inc := rfl
@[simp] theorem respond_mStage (v : DataWord) (s : State) : (respond v s).mStage = s.mStage := rfl
@[simp] theorem respond_mLevel (v : DataWord) (s : State) : (respond v s).mLevel = s.mLevel := rfl
@[simp] theorem respond_pn (v : DataWord) (s : State) : (respond v s).pn = s.pn := rfl
@[simp] theorem respond_pa (v : DataWord) (s : State) : (respond v s).pa = s.pa := rfl
@[simp] theorem respond_aStage (v : DataWord) (s : State) : (respond v s).aStage = s.aStage := rfl
@[simp] theorem respond_aLevel (v : DataWord) (s : State) : (respond v s).aLevel = s.aLevel := rfl
@[simp] theorem respond_dk (v : DataWord) (s : State) : (respond v s).dk = s.dk := rfl
@[simp] theorem respond_fA (v : DataWord) (s : State) : (respond v s).fA = s.fA := rfl
@[simp] theorem respond_fB (v : DataWord) (s : State) : (respond v s).fB = s.fB := rfl
@[simp] theorem respond_preHpf (v : DataWord) (s : State) : (respond v s).preHpf = s.preHpf := rfl
@[simp] theorem respond_aaLpf (v : DataWord) (s : State) : (respond v s).aaLpf = s.aaLpf := rfl
@[simp] theorem respond_allpass (v : DataWord) (s : State) : (respond v s).allpass = s.allpass := rfl
@[simp] theorem respond_postHpf (v : DataWord) (s : State) : (respond v s).postHpf = s.postHpf := rfl
@[simp] theorem respond_notch (v : DataWord) (s : State) : (respond v s).notch = s.notch := rfl
@[simp] theorem respond_idle (v : DataWord) (s : State) : (respond v s).idle = s.idle := rfl

/-! ## presentCommand -/

@[simp] theorem presentCommand_sta (c : Command) (s : State) : (presentCommand c s).sta = s.sta := rfl
@[simp] theorem presentCommand_port (c : Command) (s : State) : (presentCommand c s).port = c :: s.port := rfl
@[simp] theorem presentCommand_responses (c : Command) (s : State) : (presentCommand c s).responses = s.responses := rfl
@[simp] theorem presentCommand_err (c : Command) (s : State) : (presentCommand c s).err = s.err := rfl
@[simp] theorem presentCommand_fs (c : Command) (s : State) : (presentCommand c s).fs = s.fs := rfl
@[simp] theorem presentCommand_rateValid (c : Command) (s : State) : (presentCommand c s).rateValid = s.rateValid := rfl
@[simp] theorem presentCommand_inBlock (c : Command) (s : State) : (presentCommand c s).inBlock = s.inBlock := rfl
@[simp] theorem presentCommand_blockLen (c : Command) (s : State) : (presentCommand c s).blockLen = s.blockLen := rfl
@[simp] theorem presentCommand_ticksDone (c : Command) (s : State) : (presentCommand c s).ticksDone = s.ticksDone := rfl
@[simp] theorem presentCommand_pC (c : Command) (s : State) : (presentCommand c s).pC = s.pC := rfl
@[simp] theorem presentCommand_pQ (c : Command) (s : State) : (presentCommand c s).pQ = s.pQ := rfl
@[simp] theorem presentCommand_pE (c : Command) (s : State) : (presentCommand c s).pE = s.pE := rfl
@[simp] theorem presentCommand_cfg (c : Command) (s : State) : (presentCommand c s).cfg = s.cfg := rfl
@[simp] theorem presentCommand_note (c : Command) (s : State) : (presentCommand c s).note = s.note := rfl
@[simp] theorem presentCommand_accent (c : Command) (s : State) : (presentCommand c s).accent = s.accent := rfl
@[simp] theorem presentCommand_noteState (c : Command) (s : State) : (presentCommand c s).noteState = s.noteState := rfl
@[simp] theorem presentCommand_slideF (c : Command) (s : State) : (presentCommand c s).slideF = s.slideF := rfl
@[simp] theorem presentCommand_phase (c : Command) (s : State) : (presentCommand c s).phase = s.phase := rfl
@[simp] theorem presentCommand_inc (c : Command) (s : State) : (presentCommand c s).inc = s.inc := rfl
@[simp] theorem presentCommand_mStage (c : Command) (s : State) : (presentCommand c s).mStage = s.mStage := rfl
@[simp] theorem presentCommand_mLevel (c : Command) (s : State) : (presentCommand c s).mLevel = s.mLevel := rfl
@[simp] theorem presentCommand_pn (c : Command) (s : State) : (presentCommand c s).pn = s.pn := rfl
@[simp] theorem presentCommand_pa (c : Command) (s : State) : (presentCommand c s).pa = s.pa := rfl
@[simp] theorem presentCommand_aStage (c : Command) (s : State) : (presentCommand c s).aStage = s.aStage := rfl
@[simp] theorem presentCommand_aLevel (c : Command) (s : State) : (presentCommand c s).aLevel = s.aLevel := rfl
@[simp] theorem presentCommand_dk (c : Command) (s : State) : (presentCommand c s).dk = s.dk := rfl
@[simp] theorem presentCommand_fA (c : Command) (s : State) : (presentCommand c s).fA = s.fA := rfl
@[simp] theorem presentCommand_fB (c : Command) (s : State) : (presentCommand c s).fB = s.fB := rfl
@[simp] theorem presentCommand_preHpf (c : Command) (s : State) : (presentCommand c s).preHpf = s.preHpf := rfl
@[simp] theorem presentCommand_aaLpf (c : Command) (s : State) : (presentCommand c s).aaLpf = s.aaLpf := rfl
@[simp] theorem presentCommand_allpass (c : Command) (s : State) : (presentCommand c s).allpass = s.allpass := rfl
@[simp] theorem presentCommand_postHpf (c : Command) (s : State) : (presentCommand c s).postHpf = s.postHpf := rfl
@[simp] theorem presentCommand_notch (c : Command) (s : State) : (presentCommand c s).notch = s.notch := rfl
@[simp] theorem presentCommand_idle (c : Command) (s : State) : (presentCommand c s).idle = s.idle := rfl

/-! ## slideStep -/

@[simp] theorem slideStep_sta (t : F64) (s : State) : (slideStep t s).sta = s.sta := rfl
@[simp] theorem slideStep_port (t : F64) (s : State) : (slideStep t s).port = s.port := rfl
@[simp] theorem slideStep_responses (t : F64) (s : State) : (slideStep t s).responses = s.responses := rfl
@[simp] theorem slideStep_err (t : F64) (s : State) : (slideStep t s).err = s.err := rfl
@[simp] theorem slideStep_fs (t : F64) (s : State) : (slideStep t s).fs = s.fs := rfl
@[simp] theorem slideStep_rateValid (t : F64) (s : State) : (slideStep t s).rateValid = s.rateValid := rfl
@[simp] theorem slideStep_inBlock (t : F64) (s : State) : (slideStep t s).inBlock = s.inBlock := rfl
@[simp] theorem slideStep_blockLen (t : F64) (s : State) : (slideStep t s).blockLen = s.blockLen := rfl
@[simp] theorem slideStep_ticksDone (t : F64) (s : State) : (slideStep t s).ticksDone = s.ticksDone := rfl
@[simp] theorem slideStep_pC (t : F64) (s : State) : (slideStep t s).pC = s.pC := rfl
@[simp] theorem slideStep_pQ (t : F64) (s : State) : (slideStep t s).pQ = s.pQ := rfl
@[simp] theorem slideStep_pE (t : F64) (s : State) : (slideStep t s).pE = s.pE := rfl
@[simp] theorem slideStep_cfg (t : F64) (s : State) : (slideStep t s).cfg = s.cfg := rfl
@[simp] theorem slideStep_note (t : F64) (s : State) : (slideStep t s).note = s.note := rfl
@[simp] theorem slideStep_accent (t : F64) (s : State) : (slideStep t s).accent = s.accent := rfl
@[simp] theorem slideStep_noteState (t : F64) (s : State) : (slideStep t s).noteState = s.noteState := rfl
@[simp] theorem slideStep_slideF (t : F64) (s : State) :
    (slideStep t s).slideF = onePole (unitCoef s.sta (lagCoef s.sta s.cfg.slideTime s.fs)) s.slideF t := rfl
@[simp] theorem slideStep_phase (t : F64) (s : State) : (slideStep t s).phase = s.phase := rfl
@[simp] theorem slideStep_inc (t : F64) (s : State) : (slideStep t s).inc = s.inc := rfl
@[simp] theorem slideStep_mStage (t : F64) (s : State) : (slideStep t s).mStage = s.mStage := rfl
@[simp] theorem slideStep_mLevel (t : F64) (s : State) : (slideStep t s).mLevel = s.mLevel := rfl
@[simp] theorem slideStep_pn (t : F64) (s : State) : (slideStep t s).pn = s.pn := rfl
@[simp] theorem slideStep_pa (t : F64) (s : State) : (slideStep t s).pa = s.pa := rfl
@[simp] theorem slideStep_aStage (t : F64) (s : State) : (slideStep t s).aStage = s.aStage := rfl
@[simp] theorem slideStep_aLevel (t : F64) (s : State) : (slideStep t s).aLevel = s.aLevel := rfl
@[simp] theorem slideStep_dk (t : F64) (s : State) : (slideStep t s).dk = s.dk := rfl
@[simp] theorem slideStep_fA (t : F64) (s : State) : (slideStep t s).fA = s.fA := rfl
@[simp] theorem slideStep_fB (t : F64) (s : State) : (slideStep t s).fB = s.fB := rfl
@[simp] theorem slideStep_preHpf (t : F64) (s : State) : (slideStep t s).preHpf = s.preHpf := rfl
@[simp] theorem slideStep_aaLpf (t : F64) (s : State) : (slideStep t s).aaLpf = s.aaLpf := rfl
@[simp] theorem slideStep_allpass (t : F64) (s : State) : (slideStep t s).allpass = s.allpass := rfl
@[simp] theorem slideStep_postHpf (t : F64) (s : State) : (slideStep t s).postHpf = s.postHpf := rfl
@[simp] theorem slideStep_notch (t : F64) (s : State) : (slideStep t s).notch = s.notch := rfl
@[simp] theorem slideStep_idle (t : F64) (s : State) : (slideStep t s).idle = s.idle := rfl

/-! ## incStep -/

@[simp] theorem incStep_sta (s : State) : (incStep s).sta = s.sta := rfl
@[simp] theorem incStep_port (s : State) : (incStep s).port = s.port := rfl
@[simp] theorem incStep_responses (s : State) : (incStep s).responses = s.responses := rfl
@[simp] theorem incStep_err (s : State) : (incStep s).err = s.err := rfl
@[simp] theorem incStep_fs (s : State) : (incStep s).fs = s.fs := rfl
@[simp] theorem incStep_rateValid (s : State) : (incStep s).rateValid = s.rateValid := rfl
@[simp] theorem incStep_inBlock (s : State) : (incStep s).inBlock = s.inBlock := rfl
@[simp] theorem incStep_blockLen (s : State) : (incStep s).blockLen = s.blockLen := rfl
@[simp] theorem incStep_ticksDone (s : State) : (incStep s).ticksDone = s.ticksDone := rfl
@[simp] theorem incStep_pC (s : State) : (incStep s).pC = s.pC := rfl
@[simp] theorem incStep_pQ (s : State) : (incStep s).pQ = s.pQ := rfl
@[simp] theorem incStep_pE (s : State) : (incStep s).pE = s.pE := rfl
@[simp] theorem incStep_cfg (s : State) : (incStep s).cfg = s.cfg := rfl
@[simp] theorem incStep_note (s : State) : (incStep s).note = s.note := rfl
@[simp] theorem incStep_accent (s : State) : (incStep s).accent = s.accent := rfl
@[simp] theorem incStep_noteState (s : State) : (incStep s).noteState = s.noteState := rfl
@[simp] theorem incStep_slideF (s : State) : (incStep s).slideF = s.slideF := rfl
@[simp] theorem incStep_phase (s : State) : (incStep s).phase = s.phase := rfl
@[simp] theorem incStep_inc (s : State) : (incStep s).inc = (s.slideF.div (filterRate s)).min s.sta.incMax := rfl
@[simp] theorem incStep_mStage (s : State) : (incStep s).mStage = s.mStage := rfl
@[simp] theorem incStep_mLevel (s : State) : (incStep s).mLevel = s.mLevel := rfl
@[simp] theorem incStep_pn (s : State) : (incStep s).pn = s.pn := rfl
@[simp] theorem incStep_pa (s : State) : (incStep s).pa = s.pa := rfl
@[simp] theorem incStep_aStage (s : State) : (incStep s).aStage = s.aStage := rfl
@[simp] theorem incStep_aLevel (s : State) : (incStep s).aLevel = s.aLevel := rfl
@[simp] theorem incStep_dk (s : State) : (incStep s).dk = s.dk := rfl
@[simp] theorem incStep_fA (s : State) : (incStep s).fA = s.fA := rfl
@[simp] theorem incStep_fB (s : State) : (incStep s).fB = s.fB := rfl
@[simp] theorem incStep_preHpf (s : State) : (incStep s).preHpf = s.preHpf := rfl
@[simp] theorem incStep_aaLpf (s : State) : (incStep s).aaLpf = s.aaLpf := rfl
@[simp] theorem incStep_allpass (s : State) : (incStep s).allpass = s.allpass := rfl
@[simp] theorem incStep_postHpf (s : State) : (incStep s).postHpf = s.postHpf := rfl
@[simp] theorem incStep_notch (s : State) : (incStep s).notch = s.notch := rfl
@[simp] theorem incStep_idle (s : State) : (incStep s).idle = s.idle := rfl

/-! ## pathStep -/

@[simp] theorem pathStep_sta (s : State) : (pathStep s).sta = s.sta := rfl
@[simp] theorem pathStep_port (s : State) : (pathStep s).port = s.port := rfl
@[simp] theorem pathStep_responses (s : State) : (pathStep s).responses = s.responses := rfl
@[simp] theorem pathStep_err (s : State) : (pathStep s).err = s.err := rfl
@[simp] theorem pathStep_fs (s : State) : (pathStep s).fs = s.fs := rfl
@[simp] theorem pathStep_rateValid (s : State) : (pathStep s).rateValid = s.rateValid := rfl
@[simp] theorem pathStep_inBlock (s : State) : (pathStep s).inBlock = s.inBlock := rfl
@[simp] theorem pathStep_blockLen (s : State) : (pathStep s).blockLen = s.blockLen := rfl
@[simp] theorem pathStep_ticksDone (s : State) : (pathStep s).ticksDone = s.ticksDone := rfl
@[simp] theorem pathStep_pC (s : State) : (pathStep s).pC = s.pC := rfl
@[simp] theorem pathStep_pQ (s : State) : (pathStep s).pQ = s.pQ := rfl
@[simp] theorem pathStep_pE (s : State) : (pathStep s).pE = s.pE := rfl
@[simp] theorem pathStep_cfg (s : State) : (pathStep s).cfg = s.cfg := rfl
@[simp] theorem pathStep_note (s : State) : (pathStep s).note = s.note := rfl
@[simp] theorem pathStep_accent (s : State) : (pathStep s).accent = s.accent := rfl
@[simp] theorem pathStep_noteState (s : State) : (pathStep s).noteState = s.noteState := rfl
@[simp] theorem pathStep_slideF (s : State) : (pathStep s).slideF = s.slideF := rfl
@[simp] theorem pathStep_phase (s : State) : (pathStep s).phase = s.phase := rfl
@[simp] theorem pathStep_inc (s : State) : (pathStep s).inc = s.inc := rfl
@[simp] theorem pathStep_mStage (s : State) : (pathStep s).mStage = s.mStage := rfl
@[simp] theorem pathStep_mLevel (s : State) : (pathStep s).mLevel = s.mLevel := rfl
@[simp] theorem pathStep_pn (s : State) : (pathStep s).pn = onePole (unitCoef s.sta (lagCoef s.sta s.cfg.normalPathTau s.fs)) s.pn s.mLevel := rfl
@[simp] theorem pathStep_pa (s : State) : (pathStep s).pa = onePole (unitCoef s.sta (lagCoef s.sta s.cfg.accentPathTau s.fs)) s.pa s.mLevel := rfl
@[simp] theorem pathStep_aStage (s : State) : (pathStep s).aStage = s.aStage := rfl
@[simp] theorem pathStep_aLevel (s : State) : (pathStep s).aLevel = s.aLevel := rfl
@[simp] theorem pathStep_dk (s : State) : (pathStep s).dk = s.dk := rfl
@[simp] theorem pathStep_fA (s : State) : (pathStep s).fA = s.fA := rfl
@[simp] theorem pathStep_fB (s : State) : (pathStep s).fB = s.fB := rfl
@[simp] theorem pathStep_preHpf (s : State) : (pathStep s).preHpf = s.preHpf := rfl
@[simp] theorem pathStep_aaLpf (s : State) : (pathStep s).aaLpf = s.aaLpf := rfl
@[simp] theorem pathStep_allpass (s : State) : (pathStep s).allpass = s.allpass := rfl
@[simp] theorem pathStep_postHpf (s : State) : (pathStep s).postHpf = s.postHpf := rfl
@[simp] theorem pathStep_notch (s : State) : (pathStep s).notch = s.notch := rfl
@[simp] theorem pathStep_idle (s : State) : (pathStep s).idle = s.idle := rfl

/-! ## declickStep -/

@[simp] theorem declickStep_sta (a : F64) (s : State) : (declickStep a s).sta = s.sta := rfl
@[simp] theorem declickStep_port (a : F64) (s : State) : (declickStep a s).port = s.port := rfl
@[simp] theorem declickStep_responses (a : F64) (s : State) : (declickStep a s).responses = s.responses := rfl
@[simp] theorem declickStep_err (a : F64) (s : State) : (declickStep a s).err = s.err := rfl
@[simp] theorem declickStep_fs (a : F64) (s : State) : (declickStep a s).fs = s.fs := rfl
@[simp] theorem declickStep_rateValid (a : F64) (s : State) : (declickStep a s).rateValid = s.rateValid := rfl
@[simp] theorem declickStep_inBlock (a : F64) (s : State) : (declickStep a s).inBlock = s.inBlock := rfl
@[simp] theorem declickStep_blockLen (a : F64) (s : State) : (declickStep a s).blockLen = s.blockLen := rfl
@[simp] theorem declickStep_ticksDone (a : F64) (s : State) : (declickStep a s).ticksDone = s.ticksDone := rfl
@[simp] theorem declickStep_pC (a : F64) (s : State) : (declickStep a s).pC = s.pC := rfl
@[simp] theorem declickStep_pQ (a : F64) (s : State) : (declickStep a s).pQ = s.pQ := rfl
@[simp] theorem declickStep_pE (a : F64) (s : State) : (declickStep a s).pE = s.pE := rfl
@[simp] theorem declickStep_cfg (a : F64) (s : State) : (declickStep a s).cfg = s.cfg := rfl
@[simp] theorem declickStep_note (a : F64) (s : State) : (declickStep a s).note = s.note := rfl
@[simp] theorem declickStep_accent (a : F64) (s : State) : (declickStep a s).accent = s.accent := rfl
@[simp] theorem declickStep_noteState (a : F64) (s : State) : (declickStep a s).noteState = s.noteState := rfl
@[simp] theorem declickStep_slideF (a : F64) (s : State) : (declickStep a s).slideF = s.slideF := rfl
@[simp] theorem declickStep_phase (a : F64) (s : State) : (declickStep a s).phase = s.phase := rfl
@[simp] theorem declickStep_inc (a : F64) (s : State) : (declickStep a s).inc = s.inc := rfl
@[simp] theorem declickStep_mStage (a : F64) (s : State) : (declickStep a s).mStage = s.mStage := rfl
@[simp] theorem declickStep_mLevel (a : F64) (s : State) : (declickStep a s).mLevel = s.mLevel := rfl
@[simp] theorem declickStep_pn (a : F64) (s : State) : (declickStep a s).pn = s.pn := rfl
@[simp] theorem declickStep_pa (a : F64) (s : State) : (declickStep a s).pa = s.pa := rfl
@[simp] theorem declickStep_aStage (a : F64) (s : State) : (declickStep a s).aStage = s.aStage := rfl
@[simp] theorem declickStep_aLevel (a : F64) (s : State) : (declickStep a s).aLevel = s.aLevel := rfl
@[simp] theorem declickStep_dk (a : F64) (s : State) : (declickStep a s).dk = onePole (unitCoef s.sta (poleCoef s.sta s.sta.declickFc s.fs)) s.dk a := rfl
@[simp] theorem declickStep_fA (a : F64) (s : State) : (declickStep a s).fA = s.fA := rfl
@[simp] theorem declickStep_fB (a : F64) (s : State) : (declickStep a s).fB = s.fB := rfl
@[simp] theorem declickStep_preHpf (a : F64) (s : State) : (declickStep a s).preHpf = s.preHpf := rfl
@[simp] theorem declickStep_aaLpf (a : F64) (s : State) : (declickStep a s).aaLpf = s.aaLpf := rfl
@[simp] theorem declickStep_allpass (a : F64) (s : State) : (declickStep a s).allpass = s.allpass := rfl
@[simp] theorem declickStep_postHpf (a : F64) (s : State) : (declickStep a s).postHpf = s.postHpf := rfl
@[simp] theorem declickStep_notch (a : F64) (s : State) : (declickStep a s).notch = s.notch := rfl
@[simp] theorem declickStep_idle (a : F64) (s : State) : (declickStep a s).idle = s.idle := rfl

/-! ## releaseAction -/

@[simp] theorem releaseAction_sta (s : State) : (releaseAction s).sta = s.sta := rfl
@[simp] theorem releaseAction_port (s : State) : (releaseAction s).port = s.port := rfl
@[simp] theorem releaseAction_responses (s : State) : (releaseAction s).responses = s.responses := rfl
@[simp] theorem releaseAction_err (s : State) : (releaseAction s).err = s.err := rfl
@[simp] theorem releaseAction_fs (s : State) : (releaseAction s).fs = s.fs := rfl
@[simp] theorem releaseAction_rateValid (s : State) : (releaseAction s).rateValid = s.rateValid := rfl
@[simp] theorem releaseAction_inBlock (s : State) : (releaseAction s).inBlock = s.inBlock := rfl
@[simp] theorem releaseAction_blockLen (s : State) : (releaseAction s).blockLen = s.blockLen := rfl
@[simp] theorem releaseAction_ticksDone (s : State) : (releaseAction s).ticksDone = s.ticksDone := rfl
@[simp] theorem releaseAction_pC (s : State) : (releaseAction s).pC = s.pC := rfl
@[simp] theorem releaseAction_pQ (s : State) : (releaseAction s).pQ = s.pQ := rfl
@[simp] theorem releaseAction_pE (s : State) : (releaseAction s).pE = s.pE := rfl
@[simp] theorem releaseAction_cfg (s : State) : (releaseAction s).cfg = s.cfg := rfl
@[simp] theorem releaseAction_note (s : State) : (releaseAction s).note = s.note := rfl
@[simp] theorem releaseAction_accent (s : State) : (releaseAction s).accent = s.accent := rfl
@[simp] theorem releaseAction_noteState (s : State) : (releaseAction s).noteState = .silent := rfl
@[simp] theorem releaseAction_slideF (s : State) : (releaseAction s).slideF = s.slideF := rfl
@[simp] theorem releaseAction_phase (s : State) : (releaseAction s).phase = s.phase := rfl
@[simp] theorem releaseAction_inc (s : State) : (releaseAction s).inc = s.inc := rfl
@[simp] theorem releaseAction_mStage (s : State) : (releaseAction s).mStage = s.mStage := rfl
@[simp] theorem releaseAction_mLevel (s : State) : (releaseAction s).mLevel = s.mLevel := rfl
@[simp] theorem releaseAction_pn (s : State) : (releaseAction s).pn = s.pn := rfl
@[simp] theorem releaseAction_pa (s : State) : (releaseAction s).pa = s.pa := rfl
@[simp] theorem releaseAction_aLevel (s : State) : (releaseAction s).aLevel = s.aLevel := rfl
@[simp] theorem releaseAction_dk (s : State) : (releaseAction s).dk = s.dk := rfl
@[simp] theorem releaseAction_fA (s : State) : (releaseAction s).fA = s.fA := rfl
@[simp] theorem releaseAction_fB (s : State) : (releaseAction s).fB = s.fB := rfl
@[simp] theorem releaseAction_preHpf (s : State) : (releaseAction s).preHpf = s.preHpf := rfl
@[simp] theorem releaseAction_aaLpf (s : State) : (releaseAction s).aaLpf = s.aaLpf := rfl
@[simp] theorem releaseAction_allpass (s : State) : (releaseAction s).allpass = s.allpass := rfl
@[simp] theorem releaseAction_postHpf (s : State) : (releaseAction s).postHpf = s.postHpf := rfl
@[simp] theorem releaseAction_notch (s : State) : (releaseAction s).notch = s.notch := rfl
@[simp] theorem releaseAction_idle (s : State) : (releaseAction s).idle = s.idle := rfl

/-! ## clearAction -/

@[simp] theorem clearAction_sta (s : State) : (clearAction s).sta = s.sta := rfl
@[simp] theorem clearAction_port (s : State) : (clearAction s).port = s.port := rfl
@[simp] theorem clearAction_responses (s : State) : (clearAction s).responses = s.responses := rfl
@[simp] theorem clearAction_err (s : State) : (clearAction s).err = s.err := rfl
@[simp] theorem clearAction_fs (s : State) : (clearAction s).fs = s.fs := rfl
@[simp] theorem clearAction_rateValid (s : State) : (clearAction s).rateValid = s.rateValid := rfl
@[simp] theorem clearAction_inBlock (s : State) : (clearAction s).inBlock = s.inBlock := rfl
@[simp] theorem clearAction_blockLen (s : State) : (clearAction s).blockLen = s.blockLen := rfl
@[simp] theorem clearAction_ticksDone (s : State) : (clearAction s).ticksDone = s.ticksDone := rfl
@[simp] theorem clearAction_pC (s : State) : (clearAction s).pC = s.pC := rfl
@[simp] theorem clearAction_pQ (s : State) : (clearAction s).pQ = s.pQ := rfl
@[simp] theorem clearAction_pE (s : State) : (clearAction s).pE = s.pE := rfl
@[simp] theorem clearAction_cfg (s : State) : (clearAction s).cfg = s.cfg := rfl
@[simp] theorem clearAction_note (s : State) : (clearAction s).note = s.note := rfl
@[simp] theorem clearAction_accent (s : State) : (clearAction s).accent = s.accent := rfl
@[simp] theorem clearAction_noteState (s : State) : (clearAction s).noteState = .silent := rfl
@[simp] theorem clearAction_slideF (s : State) : (clearAction s).slideF = s.slideF := rfl
@[simp] theorem clearAction_phase (s : State) : (clearAction s).phase = s.phase := rfl
@[simp] theorem clearAction_inc (s : State) : (clearAction s).inc = s.inc := rfl
@[simp] theorem clearAction_mStage (s : State) : (clearAction s).mStage = .idle := rfl
@[simp] theorem clearAction_mLevel (s : State) : (clearAction s).mLevel = F64.zero := rfl
@[simp] theorem clearAction_pn (s : State) : (clearAction s).pn = F64.zero := rfl
@[simp] theorem clearAction_pa (s : State) : (clearAction s).pa = F64.zero := rfl
@[simp] theorem clearAction_aStage (s : State) : (clearAction s).aStage = .idle := rfl
@[simp] theorem clearAction_aLevel (s : State) : (clearAction s).aLevel = F64.zero := rfl
@[simp] theorem clearAction_dk (s : State) : (clearAction s).dk = s.dk := rfl
@[simp] theorem clearAction_fA (s : State) : (clearAction s).fA = s.fA := rfl
@[simp] theorem clearAction_fB (s : State) : (clearAction s).fB = s.fB := rfl
@[simp] theorem clearAction_preHpf (s : State) : (clearAction s).preHpf = s.preHpf := rfl
@[simp] theorem clearAction_aaLpf (s : State) : (clearAction s).aaLpf = s.aaLpf := rfl
@[simp] theorem clearAction_allpass (s : State) : (clearAction s).allpass = s.allpass := rfl
@[simp] theorem clearAction_postHpf (s : State) : (clearAction s).postHpf = s.postHpf := rfl
@[simp] theorem clearAction_notch (s : State) : (clearAction s).notch = s.notch := rfl
@[simp] theorem clearAction_idle (s : State) : (clearAction s).idle = s.idle := rfl

/-! ## triggerAction -/

@[simp] theorem triggerAction_sta (n : BitVec 7) (vel : Nat) (s : State) : (triggerAction n vel s).sta = s.sta := rfl
@[simp] theorem triggerAction_port (n : BitVec 7) (vel : Nat) (s : State) : (triggerAction n vel s).port = s.port := rfl
@[simp] theorem triggerAction_responses (n : BitVec 7) (vel : Nat) (s : State) : (triggerAction n vel s).responses = s.responses := rfl
@[simp] theorem triggerAction_err (n : BitVec 7) (vel : Nat) (s : State) : (triggerAction n vel s).err = s.err := rfl
@[simp] theorem triggerAction_fs (n : BitVec 7) (vel : Nat) (s : State) : (triggerAction n vel s).fs = s.fs := rfl
@[simp] theorem triggerAction_rateValid (n : BitVec 7) (vel : Nat) (s : State) : (triggerAction n vel s).rateValid = s.rateValid := rfl
@[simp] theorem triggerAction_inBlock (n : BitVec 7) (vel : Nat) (s : State) : (triggerAction n vel s).inBlock = s.inBlock := rfl
@[simp] theorem triggerAction_blockLen (n : BitVec 7) (vel : Nat) (s : State) : (triggerAction n vel s).blockLen = s.blockLen := rfl
@[simp] theorem triggerAction_ticksDone (n : BitVec 7) (vel : Nat) (s : State) : (triggerAction n vel s).ticksDone = s.ticksDone := rfl
@[simp] theorem triggerAction_pC (n : BitVec 7) (vel : Nat) (s : State) : (triggerAction n vel s).pC = s.pC := rfl
@[simp] theorem triggerAction_pQ (n : BitVec 7) (vel : Nat) (s : State) : (triggerAction n vel s).pQ = s.pQ := rfl
@[simp] theorem triggerAction_pE (n : BitVec 7) (vel : Nat) (s : State) : (triggerAction n vel s).pE = s.pE := rfl
@[simp] theorem triggerAction_cfg (n : BitVec 7) (vel : Nat) (s : State) : (triggerAction n vel s).cfg = s.cfg := rfl
@[simp] theorem triggerAction_note (n : BitVec 7) (vel : Nat) (s : State) : (triggerAction n vel s).note = n := rfl
@[simp] theorem triggerAction_accent (n : BitVec 7) (vel : Nat) (s : State) :
    (triggerAction n vel s).accent = decide (s.sta.accentThreshold ≤ vel) := rfl
@[simp] theorem triggerAction_noteState (n : BitVec 7) (vel : Nat) (s : State) : (triggerAction n vel s).noteState = .sounding := rfl
@[simp] theorem triggerAction_slideF (n : BitVec 7) (vel : Nat) (s : State) :
    (triggerAction n vel s).slideF = pitchTarget s n s.pC.bend := rfl
@[simp] theorem triggerAction_phase (n : BitVec 7) (vel : Nat) (s : State) : (triggerAction n vel s).phase = s.phase := rfl
@[simp] theorem triggerAction_inc (n : BitVec 7) (vel : Nat) (s : State) : (triggerAction n vel s).inc = s.inc := rfl
@[simp] theorem triggerAction_mStage (n : BitVec 7) (vel : Nat) (s : State) : (triggerAction n vel s).mStage = .ramp := rfl
@[simp] theorem triggerAction_mLevel (n : BitVec 7) (vel : Nat) (s : State) : (triggerAction n vel s).mLevel = s.mLevel := rfl
@[simp] theorem triggerAction_pn (n : BitVec 7) (vel : Nat) (s : State) : (triggerAction n vel s).pn = s.pn := rfl
@[simp] theorem triggerAction_pa (n : BitVec 7) (vel : Nat) (s : State) : (triggerAction n vel s).pa = s.pa := rfl
@[simp] theorem triggerAction_aStage (n : BitVec 7) (vel : Nat) (s : State) : (triggerAction n vel s).aStage = .attack := rfl
@[simp] theorem triggerAction_aLevel (n : BitVec 7) (vel : Nat) (s : State) : (triggerAction n vel s).aLevel = s.aLevel := rfl
@[simp] theorem triggerAction_dk (n : BitVec 7) (vel : Nat) (s : State) : (triggerAction n vel s).dk = s.dk := rfl
@[simp] theorem triggerAction_fA (n : BitVec 7) (vel : Nat) (s : State) : (triggerAction n vel s).fA = s.fA := rfl
@[simp] theorem triggerAction_fB (n : BitVec 7) (vel : Nat) (s : State) : (triggerAction n vel s).fB = s.fB := rfl
@[simp] theorem triggerAction_preHpf (n : BitVec 7) (vel : Nat) (s : State) : (triggerAction n vel s).preHpf = s.preHpf := rfl
@[simp] theorem triggerAction_aaLpf (n : BitVec 7) (vel : Nat) (s : State) : (triggerAction n vel s).aaLpf = s.aaLpf := rfl
@[simp] theorem triggerAction_allpass (n : BitVec 7) (vel : Nat) (s : State) : (triggerAction n vel s).allpass = s.allpass := rfl
@[simp] theorem triggerAction_postHpf (n : BitVec 7) (vel : Nat) (s : State) : (triggerAction n vel s).postHpf = s.postHpf := rfl
@[simp] theorem triggerAction_notch (n : BitVec 7) (vel : Nat) (s : State) : (triggerAction n vel s).notch = s.notch := rfl
@[simp] theorem triggerAction_idle (n : BitVec 7) (vel : Nat) (s : State) : (triggerAction n vel s).idle = false := rfl

/-! ## loadRate -/

@[simp] theorem loadRate_sta (x : F64) (s : State) : (loadRate x s).sta = s.sta := rfl
@[simp] theorem loadRate_port (x : F64) (s : State) : (loadRate x s).port = s.port := rfl
@[simp] theorem loadRate_responses (x : F64) (s : State) : (loadRate x s).responses = s.responses := rfl
@[simp] theorem loadRate_err (x : F64) (s : State) : (loadRate x s).err = s.err := rfl
@[simp] theorem loadRate_fs (x : F64) (s : State) : (loadRate x s).fs = x := rfl
@[simp] theorem loadRate_rateValid (x : F64) (s : State) : (loadRate x s).rateValid = true := rfl
@[simp] theorem loadRate_inBlock (x : F64) (s : State) : (loadRate x s).inBlock = s.inBlock := rfl
@[simp] theorem loadRate_blockLen (x : F64) (s : State) : (loadRate x s).blockLen = s.blockLen := rfl
@[simp] theorem loadRate_ticksDone (x : F64) (s : State) : (loadRate x s).ticksDone = s.ticksDone := rfl
@[simp] theorem loadRate_pC (x : F64) (s : State) : (loadRate x s).pC = s.pC := rfl
@[simp] theorem loadRate_pQ (x : F64) (s : State) : (loadRate x s).pQ = s.pQ := rfl
@[simp] theorem loadRate_pE (x : F64) (s : State) : (loadRate x s).pE = s.pE := rfl
@[simp] theorem loadRate_cfg (x : F64) (s : State) : (loadRate x s).cfg = s.cfg := rfl
@[simp] theorem loadRate_note (x : F64) (s : State) : (loadRate x s).note = s.note := rfl
@[simp] theorem loadRate_accent (x : F64) (s : State) : (loadRate x s).accent = s.accent := rfl
@[simp] theorem loadRate_noteState (x : F64) (s : State) : (loadRate x s).noteState = s.noteState := rfl
@[simp] theorem loadRate_slideF (x : F64) (s : State) : (loadRate x s).slideF = s.slideF := rfl
@[simp] theorem loadRate_phase (x : F64) (s : State) : (loadRate x s).phase = s.phase := rfl
@[simp] theorem loadRate_inc (x : F64) (s : State) : (loadRate x s).inc = s.inc := rfl
@[simp] theorem loadRate_mStage (x : F64) (s : State) : (loadRate x s).mStage = s.mStage := rfl
@[simp] theorem loadRate_mLevel (x : F64) (s : State) : (loadRate x s).mLevel = s.mLevel := rfl
@[simp] theorem loadRate_pn (x : F64) (s : State) : (loadRate x s).pn = s.pn := rfl
@[simp] theorem loadRate_pa (x : F64) (s : State) : (loadRate x s).pa = s.pa := rfl
@[simp] theorem loadRate_aStage (x : F64) (s : State) : (loadRate x s).aStage = s.aStage := rfl
@[simp] theorem loadRate_aLevel (x : F64) (s : State) : (loadRate x s).aLevel = s.aLevel := rfl
@[simp] theorem loadRate_dk (x : F64) (s : State) : (loadRate x s).dk = s.dk := rfl
@[simp] theorem loadRate_fA (x : F64) (s : State) : (loadRate x s).fA = exactCoefs s.sta (osRate s.sta x) s.fA := rfl
@[simp] theorem loadRate_fB (x : F64) (s : State) : (loadRate x s).fB = exactCoefs s.sta (osRate s.sta x) s.fB := rfl
@[simp] theorem loadRate_preHpf (x : F64) (s : State) :
    (loadRate x s).preHpf = loadAux s.sta.preHpf.coef .preHpf (osRate s.sta x) s.preHpf := rfl
@[simp] theorem loadRate_aaLpf (x : F64) (s : State) :
    (loadRate x s).aaLpf = loadAux s.sta.aaLpf.coef .aaLpf (osRate s.sta x) s.aaLpf := rfl
@[simp] theorem loadRate_allpass (x : F64) (s : State) : (loadRate x s).allpass = loadAux s.sta.allpass.coef .allpass x s.allpass := rfl
@[simp] theorem loadRate_postHpf (x : F64) (s : State) : (loadRate x s).postHpf = loadAux s.sta.postHpf.coef .postHpf x s.postHpf := rfl
@[simp] theorem loadRate_notch (x : F64) (s : State) : (loadRate x s).notch = loadAux s.sta.notch.coef .notch x s.notch := rfl
@[simp] theorem loadRate_idle (x : F64) (s : State) : (loadRate x s).idle = s.idle := rfl

/-! ## morphSetup -/

@[simp] theorem morphSetup_sta (v : ParamSet) (fc : F64) (s : State) : (morphSetup v fc s).sta = s.sta := rfl
@[simp] theorem morphSetup_port (v : ParamSet) (fc : F64) (s : State) : (morphSetup v fc s).port = s.port := rfl
@[simp] theorem morphSetup_responses (v : ParamSet) (fc : F64) (s : State) : (morphSetup v fc s).responses = s.responses := rfl
@[simp] theorem morphSetup_err (v : ParamSet) (fc : F64) (s : State) : (morphSetup v fc s).err = s.err := rfl
@[simp] theorem morphSetup_fs (v : ParamSet) (fc : F64) (s : State) : (morphSetup v fc s).fs = s.fs := rfl
@[simp] theorem morphSetup_rateValid (v : ParamSet) (fc : F64) (s : State) : (morphSetup v fc s).rateValid = s.rateValid := rfl
@[simp] theorem morphSetup_inBlock (v : ParamSet) (fc : F64) (s : State) : (morphSetup v fc s).inBlock = s.inBlock := rfl
@[simp] theorem morphSetup_blockLen (v : ParamSet) (fc : F64) (s : State) : (morphSetup v fc s).blockLen = s.blockLen := rfl
@[simp] theorem morphSetup_ticksDone (v : ParamSet) (fc : F64) (s : State) : (morphSetup v fc s).ticksDone = s.ticksDone := rfl
@[simp] theorem morphSetup_pC (v : ParamSet) (fc : F64) (s : State) : (morphSetup v fc s).pC = s.pC := rfl
@[simp] theorem morphSetup_pQ (v : ParamSet) (fc : F64) (s : State) : (morphSetup v fc s).pQ = s.pQ := rfl
@[simp] theorem morphSetup_pE (v : ParamSet) (fc : F64) (s : State) : (morphSetup v fc s).pE = s.pE := rfl
@[simp] theorem morphSetup_cfg (v : ParamSet) (fc : F64) (s : State) : (morphSetup v fc s).cfg = s.cfg := rfl
@[simp] theorem morphSetup_note (v : ParamSet) (fc : F64) (s : State) : (morphSetup v fc s).note = s.note := rfl
@[simp] theorem morphSetup_accent (v : ParamSet) (fc : F64) (s : State) : (morphSetup v fc s).accent = s.accent := rfl
@[simp] theorem morphSetup_noteState (v : ParamSet) (fc : F64) (s : State) : (morphSetup v fc s).noteState = s.noteState := rfl
@[simp] theorem morphSetup_slideF (v : ParamSet) (fc : F64) (s : State) : (morphSetup v fc s).slideF = s.slideF := rfl
@[simp] theorem morphSetup_phase (v : ParamSet) (fc : F64) (s : State) : (morphSetup v fc s).phase = s.phase := rfl
@[simp] theorem morphSetup_inc (v : ParamSet) (fc : F64) (s : State) : (morphSetup v fc s).inc = s.inc := rfl
@[simp] theorem morphSetup_mStage (v : ParamSet) (fc : F64) (s : State) : (morphSetup v fc s).mStage = s.mStage := rfl
@[simp] theorem morphSetup_mLevel (v : ParamSet) (fc : F64) (s : State) : (morphSetup v fc s).mLevel = s.mLevel := rfl
@[simp] theorem morphSetup_pn (v : ParamSet) (fc : F64) (s : State) : (morphSetup v fc s).pn = s.pn := rfl
@[simp] theorem morphSetup_pa (v : ParamSet) (fc : F64) (s : State) : (morphSetup v fc s).pa = s.pa := rfl
@[simp] theorem morphSetup_aStage (v : ParamSet) (fc : F64) (s : State) : (morphSetup v fc s).aStage = s.aStage := rfl
@[simp] theorem morphSetup_aLevel (v : ParamSet) (fc : F64) (s : State) : (morphSetup v fc s).aLevel = s.aLevel := rfl
@[simp] theorem morphSetup_dk (v : ParamSet) (fc : F64) (s : State) : (morphSetup v fc s).dk = s.dk := rfl
@[simp] theorem morphSetup_preHpf (v : ParamSet) (fc : F64) (s : State) : (morphSetup v fc s).preHpf = s.preHpf := rfl
@[simp] theorem morphSetup_aaLpf (v : ParamSet) (fc : F64) (s : State) : (morphSetup v fc s).aaLpf = s.aaLpf := rfl
@[simp] theorem morphSetup_allpass (v : ParamSet) (fc : F64) (s : State) : (morphSetup v fc s).allpass = s.allpass := rfl
@[simp] theorem morphSetup_postHpf (v : ParamSet) (fc : F64) (s : State) : (morphSetup v fc s).postHpf = s.postHpf := rfl
@[simp] theorem morphSetup_notch (v : ParamSet) (fc : F64) (s : State) : (morphSetup v fc s).notch = s.notch := rfl
@[simp] theorem morphSetup_idle (v : ParamSet) (fc : F64) (s : State) : (morphSetup v fc s).idle = s.idle := rfl

/-! ## resetEvent -/

@[simp] theorem resetEvent_sta (s : State) : (resetEvent s).sta = s.sta := rfl
@[simp] theorem resetEvent_port (s : State) : (resetEvent s).port = s.port := rfl
@[simp] theorem resetEvent_responses (s : State) : (resetEvent s).responses = s.responses := rfl

end Sys2Proof.Machine
end

