-- ==== Sys2Proof/Laws/Ops.lean ====
section
/-! SUPPORT. One lemma per shared operation that says once everything it can do: which registers it writes (an equation
`op s = { s with … }`, so every other register is unchanged) and what it keeps. Proofs cite these instead of unfolding
the operation. -/

namespace Sys2Proof.Machine

/-! ## Registers of a set -/

@[simp] theorem ParamSet.get_ofFn (f : ParamId → F64) (j : ParamId) : (ParamSet.ofFn f).get j = f j := by cases j <;> rfl
@[simp] theorem ParamSet.get_set_same (p : ParamSet) (j : ParamId) (x : F64) : (p.set j x).get j = x := by cases j <;> rfl
theorem ParamSet.get_set_other (p : ParamSet) {j k : ParamId} (x : F64) (h : k ≠ j) : (p.set j x).get k = p.get k := by
  cases j <;> cases k <;> first | rfl | exact absurd rfl h
@[simp] theorem ConfigSet.get_set_same (c : ConfigSet) (a : ConfigId) (x : F64) : (c.set a x).get a = x := by cases a <;> rfl
theorem ConfigSet.get_set_other (c : ConfigSet) {a b : ConfigId} (x : F64) (h : b ≠ a) : (c.set a x).get b = c.get b := by
  cases a <;> cases b <;> first | rfl | exact absurd rfl h

/-- An address names a parameter exactly up to 10. -/
theorem paramAt_isSome_iff (a : Nat) : (paramAt a).isSome ↔ a ≤ 10 := by
  unfold paramAt; split <;> simp_all; omega

/-- An address names a configuration register exactly up to 4. -/
theorem configAt_isSome_iff (a : Nat) : (configAt a).isSome ↔ a ≤ 4 := by
  unfold configAt; split <;> simp_all; omega

/-- No address aliases another (20_memory.md R61). -/
theorem paramAt_injective {a b : Nat} {j : ParamId} (ha : paramAt a = some j) (hb : paramAt b = some j) : a = b := by
  revert ha hb; unfold paramAt; split <;> split <;> simp <;> intro h1 h2 <;> cases h1 <;> cases h2

/-! ## Static ranges and functions -/

/-- The range of BEND is BEND_RANGE either side of 0, every other range is the table's (00_scope.md R7). -/
@[simp] theorem paramMin_bend (p : StaticParams) : p.paramMin.bend = p.bendRange.neg := rfl
@[simp] theorem paramMax_bend (p : StaticParams) : p.paramMax.bend = p.bendRange := rfl
theorem paramMin_get (p : StaticParams) {j : ParamId} (h : j ≠ .bend) : p.paramMin.get j = p.paramMinTable.get j := by
  cases j <;> first | rfl | exact absurd rfl h
theorem paramMax_get (p : StaticParams) {j : ParamId} (h : j ≠ .bend) : p.paramMax.get j = p.paramMaxTable.get j := by
  cases j <;> first | rfl | exact absurd rfl h

/-- Everything a free function can answer (00_scope.md R13). -/
theorem withinUlp_cases (e : ExactResult) (y : F64) :
    (e.admits y = true ∧ withinUlp e y = y) ∨ (e.admits y = false ∧ withinUlp e y = e.round) := by
  cases h : e.admits y <;> simp [withinUlp, h]

/-- A coefficient with the reference EXP is used as 00_scope.md R14 gives it. -/
@[simp] theorem unitCoef_reference {p : StaticParams} (h : p.expFn = .reference) (c : F64) : unitCoef p c = c := by
  simp [unitCoef, h]

/-- With any other EXP it is held to [0, 1] (log 24). -/
@[simp] theorem unitCoef_other {p : StaticParams} (h : p.expFn ≠ .reference) (c : F64) :
    unitCoef p c = c.clamp F64.zero F64.one := by
  simp [unitCoef, h]

/-- `H` at FB_HPF_FC 0, and elsewhere (44_filter.md R259). -/
@[simp] theorem feedbackCoef_zero {p : StaticParams} (h : p.fbHpfFc.isZero = true) (r : F64) : feedbackCoef p r = F64.zero := by
  simp [feedbackCoef, h]
@[simp] theorem feedbackCoef_ne {p : StaticParams} (h : p.fbHpfFc.isZero = false) (r : F64) :
    feedbackCoef p r = unitCoef p (poleCoef p p.fbHpfFc r) := by
  simp [feedbackCoef, h]

/-- Everything a RES_SKEW held to its contract can be (44_filter.md R264). -/
theorem skewHeld_cases (q y : F64) :
    (skewHeld q y = y ∧ (inUnit q = true → inUnit y = true)) ∨ (skewHeld q y = q ∧ inUnit q = true ∧ inUnit y = false) := by
  cases hq : inUnit q <;> cases hy : inUnit y <;> simp [skewHeld, hq, hy]

/-- RES_SKEW maps [0, 1] into [0, 1], whichever it is (44_filter.md R264). -/
theorem skewHeld_inUnit (q y : F64) (h : inUnit q = true) : inUnit (skewHeld q y) = true := by
  cases hy : inUnit y <;> simp [skewHeld, h, hy]

/-- Everything NORM can be where its formula has no value (43_envelopes.md R215). -/
theorem normFree_cases (hi tauP tauD : F64) :
    F64.one.le (normFree hi tauP tauD) = true ∧ (normFree hi tauP tauD).le hi = true ∧
        normFree hi tauP tauD = Config.freeNorm tauP tauD
      ∨ normFree hi tauP tauD = F64.one := by
  unfold normFree
  generalize Config.freeNorm tauP tauD = y
  by_cases h : (F64.one.le y && y.le hi) = true
  · rw [if_pos h]
    exact .inl ⟨(Bool.and_eq_true _ _ ▸ h).1, (Bool.and_eq_true _ _ ▸ h).2, rfl⟩
  · rw [if_neg h]
    exact .inr rfl

/-! ## Errors -/

/-- Everything `raise` does. -/
theorem raise_eq (e : ErrCode) (responds : Bool) (s : State) :
    raise e responds s =
      { s with err := s.err.set e, responses := if responds then s.responses ++ [0] else s.responses } := by
  cases responds <;> rfl

@[simp] theorem ErrBits.get_set_same (b : ErrBits) (e : ErrCode) : (b.set e).get e = true := by cases e <;> rfl
theorem ErrBits.get_set_mono (b : ErrBits) (e f : ErrCode) (h : b.get f = true) : (b.set e).get f = true := by
  cases e <;> cases f <;> first | rfl | exact h
theorem ErrBits.get_set_other (b : ErrBits) {e f : ErrCode} (h : f ≠ e) : (b.set e).get f = b.get f := by
  cases e <;> cases f <;> first | rfl | exact absurd rfl h
@[simp] theorem ErrBits.get_clear (e : ErrCode) : ErrBits.clear.get e = false := by cases e <;> rfl

/-! ## Block sequencer -/

/-- Everything the end of a TICK does. -/
theorem blockAdvance_eq (s : State) :
    blockAdvance s =
      { s with
        pC := (blockAdvance s).pC
        inBlock := (blockAdvance s).inBlock
        blockLen := (blockAdvance s).blockLen
        ticksDone := (blockAdvance s).ticksDone } := by
  unfold blockAdvance; split <;> rfl

theorem blockAdvance_last {s : State} (h : s.ticksDone.toNat + 1 = s.blockLen.toNat) :
    blockAdvance s = { s with pC := s.pE, inBlock := false, blockLen := 0, ticksDone := 0 } := by
  simp [blockAdvance, tickIndex, h]

theorem blockAdvance_inner {s : State} (h : s.ticksDone.toNat + 1 ≠ s.blockLen.toNat) :
    blockAdvance s = { s with ticksDone := s.ticksDone + 1 } := by
  simp [blockAdvance, tickIndex, h]

/-! ## Envelopes -/

theorem mainEnvStep_eq (tauD : F64) (s : State) :
    mainEnvStep tauD s = { s with mLevel := (mainEnvStep tauD s).mLevel, mStage := (mainEnvStep tauD s).mStage } := by
  cases h : s.mStage <;> simp only [mainEnvStep, h]
  · rw [← h]
  · by_cases hc : (s.mLevel.mul (unitCoef s.sta (decayMul s.sta tauD s.fs))).le s.sta.envEps = true <;> simp [hc]

theorem ampEnvStep_eq (s : State) :
    ampEnvStep s = { s with aLevel := (ampEnvStep s).aLevel, aStage := (ampEnvStep s).aStage } := by
  cases h : s.aStage <;> simp only [ampEnvStep, h]
  · rw [← h]
  · split <;> simp
  · split <;> simp

/-- The stages a TICK leads to (43_envelopes.md R222). -/
theorem ampEnvStep_stage (s : State) :
    match s.aStage with
    | .idle => (ampEnvStep s).aStage = .idle
    | .attack => (ampEnvStep s).aStage = .decay ∨ (ampEnvStep s).aStage = .attack
    | .decay => (ampEnvStep s).aStage = .sustain ∨ (ampEnvStep s).aStage = .decay
    | .sustain => (ampEnvStep s).aStage = .sustain
    | .release => (ampEnvStep s).aStage = .idle ∨ (ampEnvStep s).aStage = .release := by
  unfold ampEnvStep
  cases h : s.aStage <;> simp only <;> (try split) <;> simp_all

/-- The envelope step writes the envelope registers and the declick alone (43_envelopes.md R229). -/
theorem envStep_eq (v : ParamSet) (s : State) :
    (envStep v s).2 =
      { s with
        mLevel := (envStep v s).2.mLevel
        mStage := (envStep v s).2.mStage
        pn := (envStep v s).2.pn
        pa := (envStep v s).2.pa
        aLevel := (envStep v s).2.aLevel
        aStage := (envStep v s).2.aStage
        dk := (envStep v s).2.dk } := by
  unfold envStep
  simp only [declickStep, pathStep]
  rw [ampEnvStep_eq, mainEnvStep_eq]

/-! ## Filters -/

/-- A mode change writes the mode and the delay states alone (44_filter.md R257). -/
theorem setMode_eq (m : FilterMode) (f : FilterInst) :
    setMode m f =
      { f with
        mode := m
        y1 := (setMode m f).y1
        y2 := (setMode m f).y2
        y3 := (setMode m f).y3
        y4 := (setMode m f).y4
        fbs := (setMode m f).fbs } := by
  unfold setMode; split
  · subst_vars; rfl
  · rfl

@[simp] theorem setMode_mode (m : FilterMode) (f : FilterInst) : (setMode m f).mode = m := by rw [setMode_eq]
@[simp] theorem setMode_h (m : FilterMode) (f : FilterInst) : (setMode m f).h = f.h := by rw [setMode_eq]

/-- The approximate derivation keeps the mode, the delay states and `H` (44_filter.md R261). -/
theorem setParams_eq (p : StaticParams) (fc res drv r : F64) (f : FilterInst) :
    setParams p fc res drv r f =
      { f with
        cut := (setParams p fc res drv r f).cut
        resRaw := (setParams p fc res drv r f).resRaw
        driveDb := (setParams p fc res drv r f).driveDb
        resSkew := (setParams p fc res drv r f).resSkew
        g := (setParams p fc res drv r f).g
        k := (setParams p fc res drv r f).k
        dl := (setParams p fc res drv r f).dl } := by
  unfold setParams; split <;> rfl

@[simp] theorem setParams_mode (p : StaticParams) (fc res drv r : F64) (f : FilterInst) :
    (setParams p fc res drv r f).mode = f.mode := by rw [setParams_eq]
@[simp] theorem setParams_h (p : StaticParams) (fc res drv r : F64) (f : FilterInst) :
    (setParams p fc res drv r f).h = f.h := by rw [setParams_eq]

/-- The exact derivation keeps the mode (44_filter.md R260). -/
@[simp] theorem exactCoefs_mode (p : StaticParams) (r : F64) (f : FilterInst) : (exactCoefs p r f).mode = f.mode := by
  simp only [exactCoefs]

/-- A filter step writes the delay states alone (44_filter.md R265). -/
theorem filterStep_eq (p : StaticParams) (f : FilterInst) (x : F64) :
    (filterStep p f x).2 =
      { f with
        fbs := (filterStep p f x).2.fbs
        y1 := (filterStep p f x).2.y1
        y2 := (filterStep p f x).2.y2
        y3 := (filterStep p f x).2.y3
        y4 := (filterStep p f x).2.y4 } := by
  unfold filterStep; split <;> rfl

@[simp] theorem filterStep_mode (p : StaticParams) (f : FilterInst) (x : F64) : (filterStep p f x).2.mode = f.mode := by
  rw [filterStep_eq]
@[simp] theorem filterStep_h (p : StaticParams) (f : FilterInst) (x : F64) : (filterStep p f x).2.h = f.h := by
  rw [filterStep_eq]

/-! ## Auxiliary stages -/

/-- A stage keeps its sections' number (45_morph_chain.md R299). -/
@[simp] theorem auxRun_length (bs : List Biquad) (x : F64) : (auxRun bs x).2.length = bs.length := by
  induction bs generalizing x with
  | nil => rfl
  | cons b bs ih => simp [auxRun, ih]

theorem loadAuxFrom_length (c : FnChoice) (st : AuxStage) (r : F64) (i : Nat) (bs : List Biquad) :
    (loadAuxFrom c st r i bs).length = bs.length := by
  induction bs generalizing i with
  | nil => rfl
  | cons b bs ih => simp [loadAuxFrom, ih]

/-- Loading keeps the number of sections (45_morph_chain.md R300). -/
@[simp] theorem loadAux_length (c : FnChoice) (st : AuxStage) (r : F64) (bs : List Biquad) :
    (loadAux c st r bs).length = bs.length := loadAuxFrom_length c st r 0 bs

/-! ## Passes, output, idle check -/

/-- A pass writes PHASE, the pass-rate stages and the filters alone. -/
theorem onePass_eq (x : F64) (v : ParamSet) (s : State) :
    (onePass x v s).2 =
      { s with
        phase := advancePhase s.phase s.inc
        preHpf := (onePass x v s).2.preHpf
        fA := (onePass x v s).2.fA
        fB := (onePass x v s).2.fB
        aaLpf := (onePass x v s).2.aaLpf } := by
  simp only [onePass, passChain, morphOut, oscPass]

@[simp] theorem onePass_fA_mode (x : F64) (v : ParamSet) (s : State) : (onePass x v s).2.fA.mode = s.fA.mode := by
  simp [onePass, passChain, morphOut, oscPass]
@[simp] theorem onePass_fB_mode (x : F64) (v : ParamSet) (s : State) : (onePass x v s).2.fB.mode = s.fB.mode := by
  simp [onePass, passChain, morphOut, oscPass]
@[simp] theorem onePass_fA_h (x : F64) (v : ParamSet) (s : State) : (onePass x v s).2.fA.h = s.fA.h := by
  simp [onePass, passChain, morphOut, oscPass]
@[simp] theorem onePass_fB_h (x : F64) (v : ParamSet) (s : State) : (onePass x v s).2.fB.h = s.fB.h := by
  simp [onePass, passChain, morphOut, oscPass]
@[simp] theorem onePass_preHpf_length (x : F64) (v : ParamSet) (s : State) :
    (onePass x v s).2.preHpf.length = s.preHpf.length := by simp [onePass, passChain, morphOut, oscPass]
@[simp] theorem onePass_aaLpf_length (x : F64) (v : ParamSet) (s : State) :
    (onePass x v s).2.aaLpf.length = s.aaLpf.length := by simp [onePass, passChain, morphOut, oscPass]

/-- All the passes of a TICK write what one pass writes. -/
theorem passes_eq (x : F64) (v : ParamSet) (n : Nat) (z : F64) (s : State) :
    (passes x v n z s).2 =
      { s with
        phase := (passes x v n z s).2.phase
        preHpf := (passes x v n z s).2.preHpf
        fA := (passes x v n z s).2.fA
        fB := (passes x v n z s).2.fB
        aaLpf := (passes x v n z s).2.aaLpf } := by
  induction n generalizing z s with
  | zero => rfl
  | succ n ih =>
    simp only [passes]
    rw [ih]
    rw [onePass_eq]

@[simp] theorem passes_fA_mode (x : F64) (v : ParamSet) (n : Nat) (z : F64) (s : State) :
    (passes x v n z s).2.fA.mode = s.fA.mode := by
  induction n generalizing z s with
  | zero => rfl
  | succ n ih => simp [passes, ih]
@[simp] theorem passes_fB_mode (x : F64) (v : ParamSet) (n : Nat) (z : F64) (s : State) :
    (passes x v n z s).2.fB.mode = s.fB.mode := by
  induction n generalizing z s with
  | zero => rfl
  | succ n ih => simp [passes, ih]
@[simp] theorem passes_fA_h (x : F64) (v : ParamSet) (n : Nat) (z : F64) (s : State) :
    (passes x v n z s).2.fA.h = s.fA.h := by
  induction n generalizing z s with
  | zero => rfl
  | succ n ih => simp [passes, ih]
@[simp] theorem passes_fB_h (x : F64) (v : ParamSet) (n : Nat) (z : F64) (s : State) :
    (passes x v n z s).2.fB.h = s.fB.h := by
  induction n generalizing z s with
  | zero => rfl
  | succ n ih => simp [passes, ih]
@[simp] theorem passes_preHpf_length (x : F64) (v : ParamSet) (n : Nat) (z : F64) (s : State) :
    (passes x v n z s).2.preHpf.length = s.preHpf.length := by
  induction n generalizing z s with
  | zero => rfl
  | succ n ih => simp [passes, ih]
@[simp] theorem passes_aaLpf_length (x : F64) (v : ParamSet) (n : Nat) (z : F64) (s : State) :
    (passes x v n z s).2.aaLpf.length = s.aaLpf.length := by
  induction n generalizing z s with
  | zero => rfl
  | succ n ih => simp [passes, ih]

/-- The output stage writes the base-rate stages alone (45_morph_chain.md R302). -/
theorem outputStage_eq (z amp : F64) (v : ParamSet) (s : State) :
    (outputStage z amp v s).2 =
      { s with
        allpass := (auxRun s.allpass z).2
        postHpf := (auxRun s.postHpf (auxRun s.allpass z).1).2
        notch := (auxRun s.notch (auxRun s.postHpf (auxRun s.allpass z).1).1).2 } := rfl

/-- The idle check writes IDLE and DK alone (45_morph_chain.md R307). -/
theorem idleCheck_eq (s : State) :
    idleCheck s = { s with idle := (idleCheck s).idle, dk := (idleCheck s).dk } := by
  unfold idleCheck; split <;> rfl

/-! ## The sounding TICK -/

/-- Everything a non-idle TICK may write before the block advances. -/
theorem soundTick_eq (v : ParamSet) (x : F64) (s : State) :
    (soundTick v x s).2 =
      { s with
        slideF := (soundTick v x s).2.slideF
        phase := (soundTick v x s).2.phase
        inc := (soundTick v x s).2.inc
        mStage := (soundTick v x s).2.mStage
        mLevel := (soundTick v x s).2.mLevel
        pn := (soundTick v x s).2.pn
        pa := (soundTick v x s).2.pa
        aStage := (soundTick v x s).2.aStage
        aLevel := (soundTick v x s).2.aLevel
        dk := (soundTick v x s).2.dk
        fA := (soundTick v x s).2.fA
        fB := (soundTick v x s).2.fB
        preHpf := (soundTick v x s).2.preHpf
        aaLpf := (soundTick v x s).2.aaLpf
        allpass := (soundTick v x s).2.allpass
        postHpf := (soundTick v x s).2.postHpf
        notch := (soundTick v x s).2.notch
        idle := (soundTick v x s).2.idle } := by
  unfold soundTick
  simp only
  rw [idleCheck_eq, outputStage_eq, passes_eq]
  simp only [morphSetup]
  rw [envStep_eq]
  rfl

/-- A rendered TICK, idle or not, may write what a sounding one may. -/
theorem render_eq (v : ParamSet) (x : F64) (s : State) :
    (render v x s).2 =
      { s with
        slideF := (render v x s).2.slideF
        phase := (render v x s).2.phase
        inc := (render v x s).2.inc
        mStage := (render v x s).2.mStage
        mLevel := (render v x s).2.mLevel
        pn := (render v x s).2.pn
        pa := (render v x s).2.pa
        aStage := (render v x s).2.aStage
        aLevel := (render v x s).2.aLevel
        dk := (render v x s).2.dk
        fA := (render v x s).2.fA
        fB := (render v x s).2.fB
        preHpf := (render v x s).2.preHpf
        aaLpf := (render v x s).2.aaLpf
        allpass := (render v x s).2.allpass
        postHpf := (render v x s).2.postHpf
        notch := (render v x s).2.notch
        idle := (render v x s).2.idle } := by
  unfold render; split
  · rfl
  · exact soundTick_eq v x s

/-- The error bits a TICK's input sets. -/
theorem noteInput_eq (x : F64) (s : State) :
    noteInput x s = { s with err := if x.isFinite then s.err else s.err.set .value } := by
  unfold noteInput; split <;> rfl

end Sys2Proof.Machine
end

