-- ==== Sys2Proof/Laws/Frame.lean ====
section
/-! SUPPORT. Frames of the operations whose writes depend on the state: one lemma per field an operation leaves alone. -/

namespace Sys2Proof.Machine

/-! ## blockAdvance -/

@[simp] theorem blockAdvance_sta (s : State) : (blockAdvance s).sta = s.sta := by rw [blockAdvance_eq]
@[simp] theorem blockAdvance_port (s : State) : (blockAdvance s).port = s.port := by rw [blockAdvance_eq]
@[simp] theorem blockAdvance_responses (s : State) :
    (blockAdvance s).responses = s.responses := by rw [blockAdvance_eq]
@[simp] theorem blockAdvance_err (s : State) : (blockAdvance s).err = s.err := by rw [blockAdvance_eq]
@[simp] theorem blockAdvance_fs (s : State) : (blockAdvance s).fs = s.fs := by rw [blockAdvance_eq]
@[simp] theorem blockAdvance_rateValid (s : State) :
    (blockAdvance s).rateValid = s.rateValid := by rw [blockAdvance_eq]
@[simp] theorem blockAdvance_pQ (s : State) : (blockAdvance s).pQ = s.pQ := by rw [blockAdvance_eq]
@[simp] theorem blockAdvance_pE (s : State) : (blockAdvance s).pE = s.pE := by rw [blockAdvance_eq]
@[simp] theorem blockAdvance_cfg (s : State) : (blockAdvance s).cfg = s.cfg := by rw [blockAdvance_eq]
@[simp] theorem blockAdvance_note (s : State) : (blockAdvance s).note = s.note := by rw [blockAdvance_eq]
@[simp] theorem blockAdvance_accent (s : State) : (blockAdvance s).accent = s.accent := by rw [blockAdvance_eq]
@[simp] theorem blockAdvance_noteState (s : State) :
    (blockAdvance s).noteState = s.noteState := by rw [blockAdvance_eq]
@[simp] theorem blockAdvance_slideF (s : State) : (blockAdvance s).slideF = s.slideF := by rw [blockAdvance_eq]
@[simp] theorem blockAdvance_phase (s : State) : (blockAdvance s).phase = s.phase := by rw [blockAdvance_eq]
@[simp] theorem blockAdvance_inc (s : State) : (blockAdvance s).inc = s.inc := by rw [blockAdvance_eq]
@[simp] theorem blockAdvance_mStage (s : State) : (blockAdvance s).mStage = s.mStage := by rw [blockAdvance_eq]
@[simp] theorem blockAdvance_mLevel (s : State) : (blockAdvance s).mLevel = s.mLevel := by rw [blockAdvance_eq]
@[simp] theorem blockAdvance_pn (s : State) : (blockAdvance s).pn = s.pn := by rw [blockAdvance_eq]
@[simp] theorem blockAdvance_pa (s : State) : (blockAdvance s).pa = s.pa := by rw [blockAdvance_eq]
@[simp] theorem blockAdvance_aStage (s : State) : (blockAdvance s).aStage = s.aStage := by rw [blockAdvance_eq]
@[simp] theorem blockAdvance_aLevel (s : State) : (blockAdvance s).aLevel = s.aLevel := by rw [blockAdvance_eq]
@[simp] theorem blockAdvance_dk (s : State) : (blockAdvance s).dk = s.dk := by rw [blockAdvance_eq]
@[simp] theorem blockAdvance_fA (s : State) : (blockAdvance s).fA = s.fA := by rw [blockAdvance_eq]
@[simp] theorem blockAdvance_fB (s : State) : (blockAdvance s).fB = s.fB := by rw [blockAdvance_eq]
@[simp] theorem blockAdvance_preHpf (s : State) : (blockAdvance s).preHpf = s.preHpf := by rw [blockAdvance_eq]
@[simp] theorem blockAdvance_aaLpf (s : State) : (blockAdvance s).aaLpf = s.aaLpf := by rw [blockAdvance_eq]
@[simp] theorem blockAdvance_allpass (s : State) : (blockAdvance s).allpass = s.allpass := by rw [blockAdvance_eq]
@[simp] theorem blockAdvance_postHpf (s : State) : (blockAdvance s).postHpf = s.postHpf := by rw [blockAdvance_eq]
@[simp] theorem blockAdvance_notch (s : State) : (blockAdvance s).notch = s.notch := by rw [blockAdvance_eq]
@[simp] theorem blockAdvance_idle (s : State) : (blockAdvance s).idle = s.idle := by rw [blockAdvance_eq]

/-! ## noteInput -/

@[simp] theorem noteInput_sta (x : F64) (s : State) : (noteInput x s).sta = s.sta := by rw [noteInput_eq]
@[simp] theorem noteInput_port (x : F64) (s : State) : (noteInput x s).port = s.port := by rw [noteInput_eq]
@[simp] theorem noteInput_responses (x : F64) (s : State) :
    (noteInput x s).responses = s.responses := by rw [noteInput_eq]
@[simp] theorem noteInput_fs (x : F64) (s : State) : (noteInput x s).fs = s.fs := by rw [noteInput_eq]
@[simp] theorem noteInput_rateValid (x : F64) (s : State) :
    (noteInput x s).rateValid = s.rateValid := by rw [noteInput_eq]
@[simp] theorem noteInput_inBlock (x : F64) (s : State) : (noteInput x s).inBlock = s.inBlock := by rw [noteInput_eq]
@[simp] theorem noteInput_blockLen (x : F64) (s : State) :
    (noteInput x s).blockLen = s.blockLen := by rw [noteInput_eq]
@[simp] theorem noteInput_ticksDone (x : F64) (s : State) :
    (noteInput x s).ticksDone = s.ticksDone := by rw [noteInput_eq]
@[simp] theorem noteInput_pC (x : F64) (s : State) : (noteInput x s).pC = s.pC := by rw [noteInput_eq]
@[simp] theorem noteInput_pQ (x : F64) (s : State) : (noteInput x s).pQ = s.pQ := by rw [noteInput_eq]
@[simp] theorem noteInput_pE (x : F64) (s : State) : (noteInput x s).pE = s.pE := by rw [noteInput_eq]
@[simp] theorem noteInput_cfg (x : F64) (s : State) : (noteInput x s).cfg = s.cfg := by rw [noteInput_eq]
@[simp] theorem noteInput_note (x : F64) (s : State) : (noteInput x s).note = s.note := by rw [noteInput_eq]
@[simp] theorem noteInput_accent (x : F64) (s : State) : (noteInput x s).accent = s.accent := by rw [noteInput_eq]
@[simp] theorem noteInput_noteState (x : F64) (s : State) :
    (noteInput x s).noteState = s.noteState := by rw [noteInput_eq]
@[simp] theorem noteInput_slideF (x : F64) (s : State) : (noteInput x s).slideF = s.slideF := by rw [noteInput_eq]
@[simp] theorem noteInput_phase (x : F64) (s : State) : (noteInput x s).phase = s.phase := by rw [noteInput_eq]
@[simp] theorem noteInput_inc (x : F64) (s : State) : (noteInput x s).inc = s.inc := by rw [noteInput_eq]
@[simp] theorem noteInput_mStage (x : F64) (s : State) : (noteInput x s).mStage = s.mStage := by rw [noteInput_eq]
@[simp] theorem noteInput_mLevel (x : F64) (s : State) : (noteInput x s).mLevel = s.mLevel := by rw [noteInput_eq]
@[simp] theorem noteInput_pn (x : F64) (s : State) : (noteInput x s).pn = s.pn := by rw [noteInput_eq]
@[simp] theorem noteInput_pa (x : F64) (s : State) : (noteInput x s).pa = s.pa := by rw [noteInput_eq]
@[simp] theorem noteInput_aStage (x : F64) (s : State) : (noteInput x s).aStage = s.aStage := by rw [noteInput_eq]
@[simp] theorem noteInput_aLevel (x : F64) (s : State) : (noteInput x s).aLevel = s.aLevel := by rw [noteInput_eq]
@[simp] theorem noteInput_dk (x : F64) (s : State) : (noteInput x s).dk = s.dk := by rw [noteInput_eq]
@[simp] theorem noteInput_fA (x : F64) (s : State) : (noteInput x s).fA = s.fA := by rw [noteInput_eq]
@[simp] theorem noteInput_fB (x : F64) (s : State) : (noteInput x s).fB = s.fB := by rw [noteInput_eq]
@[simp] theorem noteInput_preHpf (x : F64) (s : State) : (noteInput x s).preHpf = s.preHpf := by rw [noteInput_eq]
@[simp] theorem noteInput_aaLpf (x : F64) (s : State) : (noteInput x s).aaLpf = s.aaLpf := by rw [noteInput_eq]
@[simp] theorem noteInput_allpass (x : F64) (s : State) : (noteInput x s).allpass = s.allpass := by rw [noteInput_eq]
@[simp] theorem noteInput_postHpf (x : F64) (s : State) : (noteInput x s).postHpf = s.postHpf := by rw [noteInput_eq]
@[simp] theorem noteInput_notch (x : F64) (s : State) : (noteInput x s).notch = s.notch := by rw [noteInput_eq]
@[simp] theorem noteInput_idle (x : F64) (s : State) : (noteInput x s).idle = s.idle := by rw [noteInput_eq]

/-! ## envStep -/

@[simp] theorem envStep_sta (v : ParamSet) (s : State) : (envStep v s).2.sta = s.sta := by rw [envStep_eq]
@[simp] theorem envStep_port (v : ParamSet) (s : State) : (envStep v s).2.port = s.port := by rw [envStep_eq]
@[simp] theorem envStep_responses (v : ParamSet) (s : State) :
    (envStep v s).2.responses = s.responses := by rw [envStep_eq]
@[simp] theorem envStep_err (v : ParamSet) (s : State) : (envStep v s).2.err = s.err := by rw [envStep_eq]
@[simp] theorem envStep_fs (v : ParamSet) (s : State) : (envStep v s).2.fs = s.fs := by rw [envStep_eq]
@[simp] theorem envStep_rateValid (v : ParamSet) (s : State) :
    (envStep v s).2.rateValid = s.rateValid := by rw [envStep_eq]
@[simp] theorem envStep_inBlock (v : ParamSet) (s : State) : (envStep v s).2.inBlock = s.inBlock := by rw [envStep_eq]
@[simp] theorem envStep_blockLen (v : ParamSet) (s : State) :
    (envStep v s).2.blockLen = s.blockLen := by rw [envStep_eq]
@[simp] theorem envStep_ticksDone (v : ParamSet) (s : State) :
    (envStep v s).2.ticksDone = s.ticksDone := by rw [envStep_eq]
@[simp] theorem envStep_pC (v : ParamSet) (s : State) : (envStep v s).2.pC = s.pC := by rw [envStep_eq]
@[simp] theorem envStep_pQ (v : ParamSet) (s : State) : (envStep v s).2.pQ = s.pQ := by rw [envStep_eq]
@[simp] theorem envStep_pE (v : ParamSet) (s : State) : (envStep v s).2.pE = s.pE := by rw [envStep_eq]
@[simp] theorem envStep_cfg (v : ParamSet) (s : State) : (envStep v s).2.cfg = s.cfg := by rw [envStep_eq]
@[simp] theorem envStep_note (v : ParamSet) (s : State) : (envStep v s).2.note = s.note := by rw [envStep_eq]
@[simp] theorem envStep_accent (v : ParamSet) (s : State) : (envStep v s).2.accent = s.accent := by rw [envStep_eq]
@[simp] theorem envStep_noteState (v : ParamSet) (s : State) :
    (envStep v s).2.noteState = s.noteState := by rw [envStep_eq]
@[simp] theorem envStep_slideF (v : ParamSet) (s : State) : (envStep v s).2.slideF = s.slideF := by rw [envStep_eq]
@[simp] theorem envStep_phase (v : ParamSet) (s : State) : (envStep v s).2.phase = s.phase := by rw [envStep_eq]
@[simp] theorem envStep_inc (v : ParamSet) (s : State) : (envStep v s).2.inc = s.inc := by rw [envStep_eq]
@[simp] theorem envStep_fA (v : ParamSet) (s : State) : (envStep v s).2.fA = s.fA := by rw [envStep_eq]
@[simp] theorem envStep_fB (v : ParamSet) (s : State) : (envStep v s).2.fB = s.fB := by rw [envStep_eq]
@[simp] theorem envStep_preHpf (v : ParamSet) (s : State) : (envStep v s).2.preHpf = s.preHpf := by rw [envStep_eq]
@[simp] theorem envStep_aaLpf (v : ParamSet) (s : State) : (envStep v s).2.aaLpf = s.aaLpf := by rw [envStep_eq]
@[simp] theorem envStep_allpass (v : ParamSet) (s : State) : (envStep v s).2.allpass = s.allpass := by rw [envStep_eq]
@[simp] theorem envStep_postHpf (v : ParamSet) (s : State) : (envStep v s).2.postHpf = s.postHpf := by rw [envStep_eq]
@[simp] theorem envStep_notch (v : ParamSet) (s : State) : (envStep v s).2.notch = s.notch := by rw [envStep_eq]
@[simp] theorem envStep_idle (v : ParamSet) (s : State) : (envStep v s).2.idle = s.idle := by rw [envStep_eq]

/-! ## passes -/

@[simp] theorem passes_sta (x : F64) (v : ParamSet) (n : Nat) (z : F64) (s : State) :
    (passes x v n z s).2.sta = s.sta := by rw [passes_eq]
@[simp] theorem passes_port (x : F64) (v : ParamSet) (n : Nat) (z : F64) (s : State) :
    (passes x v n z s).2.port = s.port := by rw [passes_eq]
@[simp] theorem passes_responses (x : F64) (v : ParamSet) (n : Nat) (z : F64) (s : State) :
    (passes x v n z s).2.responses = s.responses := by rw [passes_eq]
@[simp] theorem passes_err (x : F64) (v : ParamSet) (n : Nat) (z : F64) (s : State) :
    (passes x v n z s).2.err = s.err := by rw [passes_eq]
@[simp] theorem passes_fs (x : F64) (v : ParamSet) (n : Nat) (z : F64) (s : State) :
    (passes x v n z s).2.fs = s.fs := by rw [passes_eq]
@[simp] theorem passes_rateValid (x : F64) (v : ParamSet) (n : Nat) (z : F64) (s : State) :
    (passes x v n z s).2.rateValid = s.rateValid := by rw [passes_eq]
@[simp] theorem passes_inBlock (x : F64) (v : ParamSet) (n : Nat) (z : F64) (s : State) :
    (passes x v n z s).2.inBlock = s.inBlock := by rw [passes_eq]
@[simp] theorem passes_blockLen (x : F64) (v : ParamSet) (n : Nat) (z : F64) (s : State) :
    (passes x v n z s).2.blockLen = s.blockLen := by rw [passes_eq]
@[simp] theorem passes_ticksDone (x : F64) (v : ParamSet) (n : Nat) (z : F64) (s : State) :
    (passes x v n z s).2.ticksDone = s.ticksDone := by rw [passes_eq]
@[simp] theorem passes_pC (x : F64) (v : ParamSet) (n : Nat) (z : F64) (s : State) :
    (passes x v n z s).2.pC = s.pC := by rw [passes_eq]
@[simp] theorem passes_pQ (x : F64) (v : ParamSet) (n : Nat) (z : F64) (s : State) :
    (passes x v n z s).2.pQ = s.pQ := by rw [passes_eq]
@[simp] theorem passes_pE (x : F64) (v : ParamSet) (n : Nat) (z : F64) (s : State) :
    (passes x v n z s).2.pE = s.pE := by rw [passes_eq]
@[simp] theorem passes_cfg (x : F64) (v : ParamSet) (n : Nat) (z : F64) (s : State) :
    (passes x v n z s).2.cfg = s.cfg := by rw [passes_eq]
@[simp] theorem passes_note (x : F64) (v : ParamSet) (n : Nat) (z : F64) (s : State) :
    (passes x v n z s).2.note = s.note := by rw [passes_eq]
@[simp] theorem passes_accent (x : F64) (v : ParamSet) (n : Nat) (z : F64) (s : State) :
    (passes x v n z s).2.accent = s.accent := by rw [passes_eq]
@[simp] theorem passes_noteState (x : F64) (v : ParamSet) (n : Nat) (z : F64) (s : State) :
    (passes x v n z s).2.noteState = s.noteState := by rw [passes_eq]
@[simp] theorem passes_slideF (x : F64) (v : ParamSet) (n : Nat) (z : F64) (s : State) :
    (passes x v n z s).2.slideF = s.slideF := by rw [passes_eq]
@[simp] theorem passes_inc (x : F64) (v : ParamSet) (n : Nat) (z : F64) (s : State) :
    (passes x v n z s).2.inc = s.inc := by rw [passes_eq]
@[simp] theorem passes_mStage (x : F64) (v : ParamSet) (n : Nat) (z : F64) (s : State) :
    (passes x v n z s).2.mStage = s.mStage := by rw [passes_eq]
@[simp] theorem passes_mLevel (x : F64) (v : ParamSet) (n : Nat) (z : F64) (s : State) :
    (passes x v n z s).2.mLevel = s.mLevel := by rw [passes_eq]
@[simp] theorem passes_pn (x : F64) (v : ParamSet) (n : Nat) (z : F64) (s : State) :
    (passes x v n z s).2.pn = s.pn := by rw [passes_eq]
@[simp] theorem passes_pa (x : F64) (v : ParamSet) (n : Nat) (z : F64) (s : State) :
    (passes x v n z s).2.pa = s.pa := by rw [passes_eq]
@[simp] theorem passes_aStage (x : F64) (v : ParamSet) (n : Nat) (z : F64) (s : State) :
    (passes x v n z s).2.aStage = s.aStage := by rw [passes_eq]
@[simp] theorem passes_aLevel (x : F64) (v : ParamSet) (n : Nat) (z : F64) (s : State) :
    (passes x v n z s).2.aLevel = s.aLevel := by rw [passes_eq]
@[simp] theorem passes_dk (x : F64) (v : ParamSet) (n : Nat) (z : F64) (s : State) :
    (passes x v n z s).2.dk = s.dk := by rw [passes_eq]
@[simp] theorem passes_allpass (x : F64) (v : ParamSet) (n : Nat) (z : F64) (s : State) :
    (passes x v n z s).2.allpass = s.allpass := by rw [passes_eq]
@[simp] theorem passes_postHpf (x : F64) (v : ParamSet) (n : Nat) (z : F64) (s : State) :
    (passes x v n z s).2.postHpf = s.postHpf := by rw [passes_eq]
@[simp] theorem passes_notch (x : F64) (v : ParamSet) (n : Nat) (z : F64) (s : State) :
    (passes x v n z s).2.notch = s.notch := by rw [passes_eq]
@[simp] theorem passes_idle (x : F64) (v : ParamSet) (n : Nat) (z : F64) (s : State) :
    (passes x v n z s).2.idle = s.idle := by rw [passes_eq]

/-! ## idleCheck -/

@[simp] theorem idleCheck_sta (s : State) : (idleCheck s).sta = s.sta := by rw [idleCheck_eq]
@[simp] theorem idleCheck_port (s : State) : (idleCheck s).port = s.port := by rw [idleCheck_eq]
@[simp] theorem idleCheck_responses (s : State) : (idleCheck s).responses = s.responses := by rw [idleCheck_eq]
@[simp] theorem idleCheck_err (s : State) : (idleCheck s).err = s.err := by rw [idleCheck_eq]
@[simp] theorem idleCheck_fs (s : State) : (idleCheck s).fs = s.fs := by rw [idleCheck_eq]
@[simp] theorem idleCheck_rateValid (s : State) : (idleCheck s).rateValid = s.rateValid := by rw [idleCheck_eq]
@[simp] theorem idleCheck_inBlock (s : State) : (idleCheck s).inBlock = s.inBlock := by rw [idleCheck_eq]
@[simp] theorem idleCheck_blockLen (s : State) : (idleCheck s).blockLen = s.blockLen := by rw [idleCheck_eq]
@[simp] theorem idleCheck_ticksDone (s : State) : (idleCheck s).ticksDone = s.ticksDone := by rw [idleCheck_eq]
@[simp] theorem idleCheck_pC (s : State) : (idleCheck s).pC = s.pC := by rw [idleCheck_eq]
@[simp] theorem idleCheck_pQ (s : State) : (idleCheck s).pQ = s.pQ := by rw [idleCheck_eq]
@[simp] theorem idleCheck_pE (s : State) : (idleCheck s).pE = s.pE := by rw [idleCheck_eq]
@[simp] theorem idleCheck_cfg (s : State) : (idleCheck s).cfg = s.cfg := by rw [idleCheck_eq]
@[simp] theorem idleCheck_note (s : State) : (idleCheck s).note = s.note := by rw [idleCheck_eq]
@[simp] theorem idleCheck_accent (s : State) : (idleCheck s).accent = s.accent := by rw [idleCheck_eq]
@[simp] theorem idleCheck_noteState (s : State) : (idleCheck s).noteState = s.noteState := by rw [idleCheck_eq]
@[simp] theorem idleCheck_slideF (s : State) : (idleCheck s).slideF = s.slideF := by rw [idleCheck_eq]
@[simp] theorem idleCheck_phase (s : State) : (idleCheck s).phase = s.phase := by rw [idleCheck_eq]
@[simp] theorem idleCheck_inc (s : State) : (idleCheck s).inc = s.inc := by rw [idleCheck_eq]
@[simp] theorem idleCheck_mStage (s : State) : (idleCheck s).mStage = s.mStage := by rw [idleCheck_eq]
@[simp] theorem idleCheck_mLevel (s : State) : (idleCheck s).mLevel = s.mLevel := by rw [idleCheck_eq]
@[simp] theorem idleCheck_pn (s : State) : (idleCheck s).pn = s.pn := by rw [idleCheck_eq]
@[simp] theorem idleCheck_pa (s : State) : (idleCheck s).pa = s.pa := by rw [idleCheck_eq]
@[simp] theorem idleCheck_aStage (s : State) : (idleCheck s).aStage = s.aStage := by rw [idleCheck_eq]
@[simp] theorem idleCheck_aLevel (s : State) : (idleCheck s).aLevel = s.aLevel := by rw [idleCheck_eq]
@[simp] theorem idleCheck_fA (s : State) : (idleCheck s).fA = s.fA := by rw [idleCheck_eq]
@[simp] theorem idleCheck_fB (s : State) : (idleCheck s).fB = s.fB := by rw [idleCheck_eq]
@[simp] theorem idleCheck_preHpf (s : State) : (idleCheck s).preHpf = s.preHpf := by rw [idleCheck_eq]
@[simp] theorem idleCheck_aaLpf (s : State) : (idleCheck s).aaLpf = s.aaLpf := by rw [idleCheck_eq]
@[simp] theorem idleCheck_allpass (s : State) : (idleCheck s).allpass = s.allpass := by rw [idleCheck_eq]
@[simp] theorem idleCheck_postHpf (s : State) : (idleCheck s).postHpf = s.postHpf := by rw [idleCheck_eq]
@[simp] theorem idleCheck_notch (s : State) : (idleCheck s).notch = s.notch := by rw [idleCheck_eq]

/-! ## soundTick -/

@[simp] theorem soundTick_sta (v : ParamSet) (x : F64) (s : State) :
    (soundTick v x s).2.sta = s.sta := by rw [soundTick_eq]
@[simp] theorem soundTick_port (v : ParamSet) (x : F64) (s : State) :
    (soundTick v x s).2.port = s.port := by rw [soundTick_eq]
@[simp] theorem soundTick_responses (v : ParamSet) (x : F64) (s : State) :
    (soundTick v x s).2.responses = s.responses := by rw [soundTick_eq]
@[simp] theorem soundTick_err (v : ParamSet) (x : F64) (s : State) :
    (soundTick v x s).2.err = s.err := by rw [soundTick_eq]
@[simp] theorem soundTick_fs (v : ParamSet) (x : F64) (s : State) :
    (soundTick v x s).2.fs = s.fs := by rw [soundTick_eq]
@[simp] theorem soundTick_rateValid (v : ParamSet) (x : F64) (s : State) :
    (soundTick v x s).2.rateValid = s.rateValid := by rw [soundTick_eq]
@[simp] theorem soundTick_inBlock (v : ParamSet) (x : F64) (s : State) :
    (soundTick v x s).2.inBlock = s.inBlock := by rw [soundTick_eq]
@[simp] theorem soundTick_blockLen (v : ParamSet) (x : F64) (s : State) :
    (soundTick v x s).2.blockLen = s.blockLen := by rw [soundTick_eq]
@[simp] theorem soundTick_ticksDone (v : ParamSet) (x : F64) (s : State) :
    (soundTick v x s).2.ticksDone = s.ticksDone := by rw [soundTick_eq]
@[simp] theorem soundTick_pC (v : ParamSet) (x : F64) (s : State) :
    (soundTick v x s).2.pC = s.pC := by rw [soundTick_eq]
@[simp] theorem soundTick_pQ (v : ParamSet) (x : F64) (s : State) :
    (soundTick v x s).2.pQ = s.pQ := by rw [soundTick_eq]
@[simp] theorem soundTick_pE (v : ParamSet) (x : F64) (s : State) :
    (soundTick v x s).2.pE = s.pE := by rw [soundTick_eq]
@[simp] theorem soundTick_cfg (v : ParamSet) (x : F64) (s : State) :
    (soundTick v x s).2.cfg = s.cfg := by rw [soundTick_eq]
@[simp] theorem soundTick_note (v : ParamSet) (x : F64) (s : State) :
    (soundTick v x s).2.note = s.note := by rw [soundTick_eq]
@[simp] theorem soundTick_accent (v : ParamSet) (x : F64) (s : State) :
    (soundTick v x s).2.accent = s.accent := by rw [soundTick_eq]
@[simp] theorem soundTick_noteState (v : ParamSet) (x : F64) (s : State) :
    (soundTick v x s).2.noteState = s.noteState := by rw [soundTick_eq]

/-! ## render -/

@[simp] theorem render_sta (v : ParamSet) (x : F64) (s : State) : (render v x s).2.sta = s.sta := by rw [render_eq]
@[simp] theorem render_port (v : ParamSet) (x : F64) (s : State) : (render v x s).2.port = s.port := by rw [render_eq]
@[simp] theorem render_responses (v : ParamSet) (x : F64) (s : State) :
    (render v x s).2.responses = s.responses := by rw [render_eq]
@[simp] theorem render_err (v : ParamSet) (x : F64) (s : State) : (render v x s).2.err = s.err := by rw [render_eq]
@[simp] theorem render_fs (v : ParamSet) (x : F64) (s : State) : (render v x s).2.fs = s.fs := by rw [render_eq]
@[simp] theorem render_rateValid (v : ParamSet) (x : F64) (s : State) :
    (render v x s).2.rateValid = s.rateValid := by rw [render_eq]
@[simp] theorem render_inBlock (v : ParamSet) (x : F64) (s : State) :
    (render v x s).2.inBlock = s.inBlock := by rw [render_eq]
@[simp] theorem render_blockLen (v : ParamSet) (x : F64) (s : State) :
    (render v x s).2.blockLen = s.blockLen := by rw [render_eq]
@[simp] theorem render_ticksDone (v : ParamSet) (x : F64) (s : State) :
    (render v x s).2.ticksDone = s.ticksDone := by rw [render_eq]
@[simp] theorem render_pC (v : ParamSet) (x : F64) (s : State) : (render v x s).2.pC = s.pC := by rw [render_eq]
@[simp] theorem render_pQ (v : ParamSet) (x : F64) (s : State) : (render v x s).2.pQ = s.pQ := by rw [render_eq]
@[simp] theorem render_pE (v : ParamSet) (x : F64) (s : State) : (render v x s).2.pE = s.pE := by rw [render_eq]
@[simp] theorem render_cfg (v : ParamSet) (x : F64) (s : State) : (render v x s).2.cfg = s.cfg := by rw [render_eq]
@[simp] theorem render_note (v : ParamSet) (x : F64) (s : State) : (render v x s).2.note = s.note := by rw [render_eq]
@[simp] theorem render_accent (v : ParamSet) (x : F64) (s : State) :
    (render v x s).2.accent = s.accent := by rw [render_eq]
@[simp] theorem render_noteState (v : ParamSet) (x : F64) (s : State) :
    (render v x s).2.noteState = s.noteState := by rw [render_eq]

end Sys2Proof.Machine
end

