-- ==== Sys2Proof/Laws/PerInstr.lean ====
section
/-! SUPPORT. Statements about every instruction as syntax, one lemma per constructor (LAWS.json names the families):
`EncodesUnderItsOpcode`, the command word the encoder writes carries the instruction's opcode and nothing in the reserved
bits of its format (30_encoding.md R81, R82, R89). -/

namespace Sys2Proof

/-- The mask of an instruction's format: opcode and reserved bits (30_encoding.md R82, R85). -/
def Instr.formatMask : Instr → CmdWord
  | .nop => maskZ
  | .setRate _ => maskZ
  | .writeParam _ _ => maskA
  | .writeConfig _ _ => maskA
  | .beginBlock _ => maskL
  | .trigger _ _ => maskNV
  | .slide _ => maskN
  | .release => maskZ
  | .allOff => maskZ
  | .tick _ => maskZ
  | .readStatus => maskZ
  | .readParam _ _ => maskAS
  | .readConfig _ => maskA
  | .clearStatus => maskZ

end Sys2Proof

namespace Sys2Proof.Laws

/-- The command word has the instruction's opcode in bits 31:28 and 0 in every reserved bit. -/
def EncodesUnderItsOpcode.Statement (i : Instr) : Prop :=
  encodeWord i &&& i.formatMask = BitVec.ofNat 4 i.opcode ++ 0#28

/-- Setting a field of `n` bits at position `k` does not show through a mask that is 0 on it. -/
theorem or_field {n : Nat} (c : CmdWord) (b : BitVec n) (k : Nat) (m : CmdWord)
    (h : ∀ i : Fin 32, k ≤ i.val → i.val < k + n → m.getLsbD i.val = false) :
    (c ||| BitVec.zeroExtend 32 b <<< k) &&& m = c &&& m := by
  apply BitVec.eq_of_getLsbD_eq
  intro i hi
  simp only [BitVec.getLsbD_and, BitVec.getLsbD_or, BitVec.getLsbD_shiftLeft]
  by_cases h1 : k ≤ i
  · by_cases h2 : i < k + n
    · simp [h ⟨i, hi⟩ h1 h2]
    · simp [BitVec.getLsbD_of_ge b (i - k) (by omega)]
  · simp [show i < k by omega]

/-- The same at position 0. -/
theorem or_low_field {n : Nat} (c : CmdWord) (b : BitVec n) (m : CmdWord)
    (h : ∀ i : Fin 32, 0 ≤ i.val → i.val < 0 + n → m.getLsbD i.val = false) :
    (c ||| BitVec.zeroExtend 32 b) &&& m = c &&& m := by
  simpa using or_field c b 0 m h

namespace EncodesUnderItsOpcode

theorem nop : Statement (.nop) := by
  simp only [Statement, encodeWord, Instr.formatMask, Instr.opcode, maskZ]; decide
theorem setRate (d : DataWord) : Statement (.setRate d) := by
  simp only [Statement, encodeWord, Instr.formatMask, Instr.opcode, maskZ]; decide
theorem writeParam (a : Nat) (d : DataWord) : Statement (.writeParam a d) := by
  simp only [Statement, encodeWord, Instr.formatMask, Instr.opcode, maskA]
  rw [or_low_field _ _ _ (by decide)]; decide
theorem writeConfig (a : Nat) (d : DataWord) : Statement (.writeConfig a d) := by
  simp only [Statement, encodeWord, Instr.formatMask, Instr.opcode, maskA]
  rw [or_low_field _ _ _ (by decide)]; decide
theorem beginBlock (n : Nat) : Statement (.beginBlock n) := by
  simp only [Statement, encodeWord, Instr.formatMask, Instr.opcode, maskL]
  rw [or_low_field _ _ _ (by decide)]; decide
theorem trigger (n v : Nat) : Statement (.trigger n v) := by
  simp only [Statement, encodeWord, Instr.formatMask, Instr.opcode, maskNV]
  rw [or_low_field _ _ _ (by decide), or_field _ _ _ _ (by decide)]; decide
theorem slide (n : Nat) : Statement (.slide n) := by
  simp only [Statement, encodeWord, Instr.formatMask, Instr.opcode, maskN]
  rw [or_low_field _ _ _ (by decide)]; decide
theorem release : Statement (.release) := by
  simp only [Statement, encodeWord, Instr.formatMask, Instr.opcode, maskZ]; decide
theorem allOff : Statement (.allOff) := by
  simp only [Statement, encodeWord, Instr.formatMask, Instr.opcode, maskZ]; decide
theorem tick (d : DataWord) : Statement (.tick d) := by
  simp only [Statement, encodeWord, Instr.formatMask, Instr.opcode, maskZ]; decide
theorem readStatus : Statement (.readStatus) := by
  simp only [Statement, encodeWord, Instr.formatMask, Instr.opcode, maskZ]; decide
theorem readParam (b : Bool) (a : Nat) : Statement (.readParam b a) := by
  simp only [Statement, encodeWord, Instr.formatMask, Instr.opcode, maskAS]
  rw [or_low_field _ _ _ (by decide), or_field _ _ _ _ (by decide)]; decide
theorem readConfig (a : Nat) : Statement (.readConfig a) := by
  simp only [Statement, encodeWord, Instr.formatMask, Instr.opcode, maskA]
  rw [or_low_field _ _ _ (by decide)]; decide
theorem clearStatus : Statement (.clearStatus) := by
  simp only [Statement, encodeWord, Instr.formatMask, Instr.opcode, maskZ]; decide

end EncodesUnderItsOpcode

end Sys2Proof.Laws
end

