-- ==== Sys2Proof/Tests/Slice0.lean ====
section
/-! SUPPORT. Own tests: named theorems about one operation or one step, then a witness for every statement that has
hypotheses. Expected values are the spec's: 30_encoding.md R91, 95_test_vectors.md section 2 (its V- ids are named), and
the worked examples of the rules; a decimal of the spec is written as its binary64 bits. -/

open Sys2Proof Sys2Proof.Machine

namespace Sys2Proof.Tests

set_option Elab.async false

/-! ## Small states -/

/-- The state an outcome goes to. -/
def nextOf (o : Host.Outcome State Fault Refusal) : Option State :=
  match o with
  | .next t => some t
  | .fault _ => none
  | .refused _ => none

/-- A field of the state after one command. -/
def after {α : Type} (i : Instr) (s : State) (f : State → α) : Option α := (nextOf (exec i s)).map f

/-- Reset in the test configuration, with `FS` 1000 (95_test_vectors.md section 2.5). -/
def rated : State := { State.resetWith Config.TESTCFG with rateValid := true, fs := F64.ofNat 1000 }

/-- The same with a block of `n` samples open, `k` TICKs done. -/
def opened (n k : BitVec 16) : State := { rated with inBlock := true, blockLen := n, ticksDone := k }

/-- The same sounding note 69, accented, its envelopes just triggered. -/
def sounding (n k : BitVec 16) : State :=
  { opened n k with
    note := 69, accent := true, noteState := .sounding, idle := false
    mStage := .ramp, aStage := .attack, slideF := F64.ofNat 250 }

/-- ALL_OFF in CLEAR mode (00_scope.md R7). -/
def clearing : State := { sounding 2 0 with sta := { Config.TESTCFG with allOffMode := .clear } }

/-- A quiet NaN (V-ENC-16). -/
def nan : DataWord := 0x7FF8000000000000#64

/-- The STATUS word and the last response after a word is presented. -/
def seen (cmd : CmdWord) (data : DataWord) (s : State) : Option (DataWord × List DataWord) :=
  (nextOf (step { s with port := [⟨cmd, data⟩] })).map fun t => (statusWord t, t.responses)

/-! ## WellFormed refuses -/

/-- 30_encoding.md R83: addr is 0..255. -/
theorem test_wf_addr_too_big : (Instr.writeParam 256 0).WellFormed = false := by decide

theorem test_wf_config_addr_too_big : (Instr.writeConfig 256 0).WellFormed = false ∧ (Instr.readConfig 256).WellFormed = false := by decide

theorem test_wf_read_addr_too_big : (Instr.readParam true 256).WellFormed = false := by decide

/-- 30_encoding.md R83: len is 0..65535. -/
theorem test_wf_len_too_big : (Instr.beginBlock 65536).WellFormed = false := by decide

/-- 30_encoding.md R83: note is 0..127. -/
theorem test_wf_note_too_big : (Instr.trigger 128 0).WellFormed = false ∧ (Instr.slide 128).WellFormed = false := by decide

/-- 30_encoding.md R83: vel is 0..127. -/
theorem test_wf_vel_too_big : (Instr.trigger 0 128).WellFormed = false := by decide

/-! ## Decoding: one word per command, written from 30_encoding.md R85, R91 and V-ENC -/

theorem test_decode_nop : decode ⟨0x00000000#32, 5⟩ = .command .nop := by decide

theorem test_decode_set_rate : decode ⟨0x10000000#32, 0x40E5888000000000#64⟩ = .command (.setRate 0x40E5888000000000#64) := by decide

theorem test_decode_write_param : decode ⟨0x20000007#32, 0x3FE0000000000000#64⟩ = .command (.writeParam 7 0x3FE0000000000000#64) := by decide

theorem test_decode_write_config : decode ⟨0x30000001#32, 0⟩ = .command (.writeConfig 1 0) := by decide

theorem test_decode_begin_block : decode ⟨0x40008040#32, 0⟩ = .command (.beginBlock 32832) := by decide

theorem test_decode_trigger : decode ⟨0x50007F2D#32, 0⟩ = .command (.trigger 45 127) := by decide

theorem test_decode_slide : decode ⟨0x60000030#32, 0⟩ = .command (.slide 48) := by decide

theorem test_decode_release : decode ⟨0x70000000#32, 0⟩ = .command .release := by decide

theorem test_decode_all_off : decode ⟨0x80000000#32, 0⟩ = .command .allOff := by decide

theorem test_decode_tick : decode ⟨0x90000000#32, nan⟩ = .command (.tick nan) := by decide

theorem test_decode_read_status : decode ⟨0xA0000000#32, 0⟩ = .command .readStatus := by decide

theorem test_decode_read_param : decode ⟨0xB0000101#32, 0⟩ = .command (.readParam true 1) := by decide

theorem test_decode_read_config : decode ⟨0xC00000FF#32, 0⟩ = .command (.readConfig 255) := by decide

theorem test_decode_clear_status : decode ⟨0xD0000000#32, 0⟩ = .command .clearStatus := by decide

/-- The data word stands above the command word; bits at or above nbits are 0. -/
theorem test_decode_table_word_with_data : decodeTableWord 96 0x40E588800000000010000000 = some (.setRate 0x40E5888000000000#64) := by decide

theorem test_decode_table_word_without_data : decodeTableWord 32 0x40E588800000000010000000 = some (.setRate 0) := by decide

/-- 20_memory.md R63: least-significant byte first. -/
theorem test_bytes_little_endian : Command.ofBytes [0x2D#8, 0x7F#8, 0x00#8, 0x50#8, 1#8, 0#8, 0#8, 0#8, 0#8, 0#8, 0#8, 2#8] =
    some (⟨0x50007F2D#32, 0x0200000000000001#64⟩, []) := by decide

/-! ## Decoding corner cases (V-DEC, V-ERR-5): STATUS and responses after one step from reset -/

/-- V-DEC-1 -/
theorem test_reserved_bit : seen 0x20000100#32 0 State.reset = some (0x000000003C040002#64, []) := by decide +kernel

/-- V-DEC-2 -/
theorem test_reserved_bit_responding : seen 0xB0000200#32 0 State.reset = some (0x000000003C040002#64, [0]) := by decide +kernel

/-- V-DEC-3 -/
theorem test_reserved_opcode : seen 0xF0000000#32 0 State.reset = some (0x000000003C040002#64, []) := by decide +kernel

/-- V-DEC-5, V-ERR-2 -/
theorem test_address_is_no_encoding_error : seen 0x2000000B#32 nan State.reset = some (0x000000003C080002#64, []) := by decide +kernel

/-- V-DEC-6 -/
theorem test_trigger_reserved_bit : seen 0x50008045#32 0 State.reset = some (0x000000003C040002#64, []) := by decide +kernel

/-- V-DEC-7 -/
theorem test_slide_reserved_bit : seen 0x60000080#32 0 State.reset = some (0x000000003C040002#64, []) := by decide +kernel

/-- V-ERR-5 -/
theorem test_reserved_bit_before_address : seen 0x2000010B#32 0 State.reset = some (0x000000003C040002#64, []) := by decide +kernel

/-! ## Binary64 and functions -/

/-- 00_scope.md R12: ties to even. -/
theorem test_add_tie_to_even : F64.add ⟨0x3FF0000000000000#64⟩ ⟨0x3CA0000000000000#64⟩ = ⟨0x3FF0000000000000#64⟩ ∧ F64.add ⟨0x3FF0000000000001#64⟩ ⟨0x3CA0000000000000#64⟩ = ⟨0x3FF0000000000002#64⟩ := by decide +kernel

/-- 00_scope.md R12: subnormals are kept. -/
theorem test_sub_subnormal : F64.sub ⟨0x0010000000000000#64⟩ ⟨0x000FFFFFFFFFFFFF#64⟩ = ⟨1⟩ := by decide +kernel

/-- 00_scope.md R13: -0.0 passes through a range whose low end is 0. -/
theorem test_clamp_keeps_negative_zero : F64.clamp ⟨0x8000000000000000#64⟩ F64.zero F64.one = ⟨0x8000000000000000#64⟩ := by decide +kernel

/-- V-ENV-10: NORM(200, 200) is EXP(1). -/
theorem test_exp : refExp (F64.ofNat 1) = ⟨0x4005BF0A8B145769#64⟩ ∧ refExp F64.zero = F64.one := by decide +kernel

/-- 00_scope.md R13: within one unit in the last place of EXP(-2^-60) lie 1 and the Num below it, not the Num above 1. -/
theorem test_one_ulp_of_exp : [(⟨0x3FEFFFFFFFFFFFFE#64⟩ : F64), ⟨0x3FEFFFFFFFFFFFFF#64⟩, F64.one, ⟨0x3FF0000000000001#64⟩].map (exactExp ⟨0xBC30000000000000#64⟩).admits =
    [false, true, true, false] := by decide +kernel

/-- 00_scope.md R13: 2^1024 rounds to infinity, and the largest finite Num is one unit from it. -/
theorem test_one_ulp_at_overflow : refPow2 (F64.ofNat 1024) = F64.infinity false ∧ (exactPow2 (F64.ofNat 1024)).admits ⟨0x7FEFFFFFFFFFFFFF#64⟩ = true := by decide +kernel

/-- 41_note.md R152: 440 * POW2(-24/12) = 110. -/
theorem test_pow2 : refPow2 (F64.ofNat 2).neg = ⟨0x3FD0000000000000#64⟩ := by decide +kernel

/-- V-ENV-7 -/
theorem test_lag_coef : lagCoef Config.TESTCFG (F64.ofNat 15) (F64.ofNat 1000) = ⟨0x3FB0829D3E1C1160#64⟩ := by decide +kernel

/-- V-ENV-4 -/
theorem test_decay_mul : decayMul Config.TESTCFG (F64.ofNat 1000) (F64.ofNat 1000) = ⟨0x3FEFF7CFE56F1A9E#64⟩ := by decide +kernel

/-- V-ENV-8, V-ENV-10 -/
theorem test_normalizer : normalizer Config.TESTCFG (F64.ofNat 400) (F64.ofNat 200) = ⟨0x4010000000000000#64⟩ ∧
    normalizer Config.TESTCFG (F64.ofNat 15) (F64.ofNat 200) = ⟨0x3FF3BD413A54ED87#64⟩ := by decide +kernel

/-! ## One step of every command -/

/-- V-CTL-23 -/
theorem test_nop : after .nop State.reset statusWord = some 0x000000003C000002#64 := by decide +kernel

/-- V-CTL-1, in REFCFG -/
theorem test_set_rate : after (.setRate 0x40E5888000000000#64) State.reset (fun t => (t.fs, t.rateValid, t.fA.g, t.fB.k, t.fA.dl, t.fB.h)) =
    some (⟨0x40E5888000000000#64⟩, true, ⟨0x3FA1EA7B2BE6D810#64⟩, ⟨0x400A2991F2A97915#64⟩, F64.one, ⟨0x3F75D37060541280#64⟩) := by decide +kernel

/-- V-CTL-2 -/
theorem test_set_rate_rejected : after (.setRate 0xBFF0000000000000#64) State.reset statusWord = some 0x000000003C010002#64 := by decide +kernel

/-- V-CTL-6 -/
theorem test_write_param : after (.writeParam 9 0x4034000000000000#64) State.reset (fun t => (t.pQ.bend, t.pC.bend)) = some (⟨0x4028000000000000#64⟩, F64.zero) := by decide +kernel

/-- V-CTL-7 -/
theorem test_write_param_low : after (.writeParam 6 0xC059000000000000#64) State.reset (fun t => (t.pQ.volume, statusWord t)) =
    some (⟨0xC04E000000000000#64⟩, 0x000000003C000002#64) := by decide +kernel

/-- V-CTL-8 -/
theorem test_write_config : after (.writeConfig 0 0x40B3880000000000#64) State.reset (fun t => t.cfg.tuning) = some ⟨0x408F400000000000#64⟩ := by decide +kernel

/-- V-CTL-9 -/
theorem test_write_config_hi_mode : after (.writeConfig 4 0x401C000000000000#64) State.reset (fun t => (t.cfg.morphHiMode, t.err.value)) = some (⟨0x4020000000000000#64⟩, true) := by decide +kernel

/-- 40_control.md R118 -/
theorem test_begin_block : after (.beginBlock 65535) rated (fun t => (t.inBlock, t.blockLen, t.ticksDone)) = some (true, 65535, 0) := by decide +kernel

/-- V-ERR-3 -/
theorem test_begin_block_without_rate : after (.beginBlock 0) State.reset statusWord = some 0x000000003C020002#64 := by decide +kernel

/-- V-NOTE-1 -/
theorem test_trigger : after (.trigger 69 99) rated statusWord = some 0x0000000045000245#64 := by decide +kernel

/-- V-NOTE-9, V-OSC-3 -/
theorem test_trigger_pitch : after (.trigger 60 100) rated (fun t => (t.slideF, t.accent)) = some (⟨0x40705A0250C2B956#64⟩, true) := by decide +kernel

/-- V-NOTE-5 -/
theorem test_slide : after (.slide 48) State.reset statusWord = some 0x0000000030000002#64 := by decide +kernel

/-- 41_note.md R156 -/
theorem test_slide_while_sounding : after (.slide 48) (sounding 2 0) (fun t => (t.note, t.noteState, t.slideF)) = some (48, .sliding, F64.ofNat 250) := by decide +kernel

/-- V-NOTE-3: Silent, AMP RELEASE, MAIN RAMP kept -/
theorem test_release : after .release { sounding 0 0 with inBlock := false } statusWord = some 0x0000000045000311#64 := by decide +kernel

/-- V-NOTE-10 -/
theorem test_all_off_clear : after .allOff clearing (fun t => (t.noteState, t.aStage, t.mStage, t.accent)) = some (.silent, .idle, .idle, true) := by decide +kernel

/-- 41_note.md R150 -/
theorem test_all_off_in_started_block : after .allOff (sounding 2 1) (fun t => (t.noteState, t.err.seq)) = some (.sounding, true) := by decide +kernel

/-- V-OSC-12, V-OSC-13 -/
theorem test_tick_nan_while_idle : after (.tick nan) (opened 2 0) (fun t => (t.responses, t.err.value, t.ticksDone)) = some ([0], true, 1) := by decide +kernel

/-- V-ERR-4 -/
theorem test_tick_without_block : after (.tick nan) rated (fun t => (t.responses, t.err.seq, t.err.value)) = some ([0], true, false) := by decide +kernel

/-- V-CTL-16 -/
theorem test_read_status : after .readStatus State.reset (fun t => t.responses) = some [0x000000003C000002#64] := by decide +kernel

/-- V-CTL-21 -/
theorem test_read_param : after (.readParam false 1) State.reset (fun t => t.responses) = some [0x408F400000000000#64] := by decide +kernel

/-- V-CTL-17 -/
theorem test_read_config : after (.readConfig 0) State.reset (fun t => t.responses) = some [0x407B800000000000#64] := by decide +kernel

/-- V-CTL-19 -/
theorem test_read_config_rejected : after (.readConfig 5) State.reset (fun t => (t.responses, t.err.addr)) = some ([0], true) := by decide +kernel

/-- V-CTL-22 -/
theorem test_clear_status : after .clearStatus { State.reset with err := ⟨true, true, true, true, true⟩ } statusWord = some 0x000000003C000002#64 := by decide +kernel

/-! ## Parts of a sounding TICK, with the numbers of program P3 -/

/-- V-OSC-7 -/
theorem test_pitch_step : (pitchStep rated.pC { sounding 2 0 with cfg := { rated.cfg with tuning := F64.ofNat 250, slideTime := F64.zero } }).inc = ⟨0x3FB0000000000000#64⟩ := by decide +kernel

/-- V-OSC-5 -/
theorem test_slide_step : (slideStep ⟨0x40605A0250C2B956#64⟩ { rated with slideF := F64.ofNat 110 }).slideF = ⟨0x405B96042DB62FEC#64⟩ := by decide +kernel

/-- A corner in which 42_tick_osc.md R185 as written fails (log 21): from 8372.02 Hz to 8.18 Hz with SLIDE_TIME 0. -/
theorem test_slide_misses_its_target : (slideStep ⟨0x40205A0250C2B956#64⟩ { rated with cfg := { rated.cfg with slideTime := F64.zero }, slideF := ⟨0x40C05A0250C2B956#64⟩ }).slideF ≠ ⟨0x40205A0250C2B956#64⟩ := by decide +kernel

/-- A corner in which 45_morph_chain.md R304 as written fails (log 21): the drive of 24 dB on the largest Num. -/
theorem test_loud_input_overflows : (F64.mul (pow10F Config.REFCFG ((F64.ofNat 24).div (F64.ofNat 20))) ⟨0x7FEFFFFFFFFFFFFF#64⟩).isFinite = false := by decide +kernel

/-- 95_test_vectors.md P7, TICK 7, the first TICK past the split: its printed filter outputs and DK give its printed response
with the weight 0.5 of 45_morph_chain.md R294, against the bound of 70_reset_and_hazards.md R373 (log 21). -/
theorem test_crossing_tick_weight :
    (crossfade false (morphFraction Config.TESTCFG ⟨0x3FE8000000000000#64⟩) ⟨0xBF938ADF9CEC9830#64⟩ ⟨0xBFA68D09AB758F68#64⟩).mul ⟨0x3FE4E402F37A2254#64⟩ =
      ⟨0xBF9519DA88CD58DC#64⟩ := by decide +kernel

/-- V-OSC-9 -/
theorem test_phase_wraps : advancePhase ⟨0x3FE0000000000000#64⟩ ⟨0x3FE0000000000000#64⟩ = F64.zero := by decide +kernel

/-- The corner in which 42_tick_osc.md R188 as written fails (log 21). -/
theorem test_phase_bound_is_reached : F64.add ⟨0x3FEFFFFFFFFFFFFF#64⟩ ⟨0x3FE0000000000000#64⟩ = ⟨0x3FF8000000000000#64⟩ ∧ advancePhase ⟨0x3FEFFFFFFFFFFFFF#64⟩ ⟨0x3FE0000000000000#64⟩ = ⟨0x3FE0000000000000#64⟩ := by decide +kernel

/-- The corner in which 40_control.md R125 as written fails (log 21). -/
theorem test_smoother_first_value_not_strict : smoothedValue ⟨0x408F400000000000#64⟩ ⟨0x408F400000000001#64⟩ 1 2 = ⟨0x408F400000000000#64⟩ := by decide +kernel

/-- V-OSC-11 -/
theorem test_osc_blend : oscSample Config.TESTCFG ⟨0x3FE0000000000000#64⟩ ⟨0x3FD0000000000000#64⟩ F64.zero = ⟨0x3FD0000000000000#64⟩ := by decide +kernel

/-- V-ENV-1 -/
theorem test_main_env : (mainEnvStep (F64.ofNat 200) { rated with mStage := .decay, mLevel := F64.one }).mLevel = ⟨0x3FEFD7246927D28B#64⟩ := by decide +kernel

/-- V-ENV-5 -/
theorem test_amp_env_release : (ampEnvStep { rated with aStage := .release, aLevel := ⟨0x3FE6666666666666#64⟩ }).aLevel = ⟨0x3FE444B31EE204A8#64⟩ := by decide +kernel

/-- V-ENV-7, V-ENV-11, V-ENV-14: program P3, TICK 1 -/
theorem test_env_step : (fun r : (F64 × F64) × State => (r.1.1, r.1.2, r.2.pn, r.2.pa, r.2.mStage))
      (envStep rated.pC (sounding 2 0)) =
    (⟨0x408F400000000000#64⟩, ⟨0x3FC6E47A86E7C097#64⟩, ⟨0x3FB0829D3E1C1160#64⟩, ⟨0x3FC733D4A7A67A9C#64⟩, .decay) := by decide +kernel

/-- V-FLT-4 -/
theorem test_filter_step : (filterStep Config.TESTCFG
      { FilterInst.reset Config.TESTCFG .ladder with g := ⟨0x3FE9590CEE422608#64⟩, k := ⟨0x400A2991F2A97915#64⟩, dl := F64.one }
      ⟨0xBFEC000000000000#64⟩).1 = ⟨0xBFD60C1366B2D087#64⟩ := by decide +kernel

/-- V-MOR-3 -/
theorem test_gain : pow10F Config.TESTCFG ((F64.ofNat 60).neg.div (F64.ofNat 20)) = ⟨0x3F50624DD2F1A9FC#64⟩ := by decide +kernel

/-- V-MOR-6, at abs(DK) = 1e-6 -/
theorem test_idle_check : (fun t : State => (t.idle, t.dk)) (idleCheck { rated with idle := false, dk := ⟨0xBEB0C6F7A0B5ED8D#64⟩ }) = (true, F64.zero) := by decide +kernel

/-! ## Witnesses: concrete states and operands that meet the hypotheses of each statement, clause by clause -/

theorem witness_EncodeThenDecode : (Instr.trigger 127 127).WellFormed = true ∧ (Instr.beginBlock 65535).WellFormed = true ∧
    (Instr.readParam true 255).WellFormed = true ∧ (Instr.writeConfig 255 nan).WellFormed = true ∧ Instr.nop.WellFormed = true := by decide

theorem witness_DecodeThenEncode : decode ⟨0x50007F7F#32, 0⟩ = .command (.trigger 127 127) ∧
    decode ⟨0x200000FF#32, nan⟩ = .command (.writeParam 255 nan) ∧ (Instr.writeParam 255 nan).opcode ∈ [0x1, 0x2, 0x3, 0x9] := by decide

theorem witness_StepRunsTheDecodedCommand : ({ State.reset with port := [⟨0x40000040#32, 0⟩] } : State).port = [⟨0x40000040#32, 0⟩] ∧
    decode ⟨0x40000040#32, 0⟩ = .command (.beginBlock 64) := by decide +kernel

theorem witness_ReservedWords_opcode : ({ State.reset with port := [⟨0xE0000000#32, 0⟩] } : State).port = [⟨0xE0000000#32, 0⟩] ∧ 14 ≤ (0xE0000000#32 >>> 28).toNat := by decide +kernel

theorem witness_ReservedWords_match : [0xFFFFFFFF#32, 0xFFFFFFFF#32, 0xFFFFFF00#32][(0x200000FF#32 >>> 28).toNat]? = some 0xFFFFFF00#32 ∧
    0x200000FF#32 &&& 0xFFFFFF00#32 = (0x200000FF#32 >>> 28) <<< 28 := by decide

theorem witness_ReservedWords_no_match : [0xFFFFFFFF#32, 0xFFFFFFFF#32, 0xFFFFFF00#32][(0x20000100#32 >>> 28).toNat]? = some 0xFFFFFF00#32 ∧
    0x20000100#32 &&& 0xFFFFFF00#32 ≠ (0x20000100#32 >>> 28) <<< 28 := by decide

theorem witness_EveryStepAnswersNext : State.reset.port = [] := by decide +kernel

theorem witness_PresentedTableWord : decodeTableWord 32 0x50007F2D = some (.trigger 45 127) := by decide

theorem witness_SetRate_in_block : (opened 1 0).inBlock = true := by decide +kernel

theorem witness_SetRate_bad_rate : State.reset.inBlock = false ∧ (F64.fromBits nan).isFinite = false ∧ F64.zero.lt (F64.fromBits 0x8000000000000000#64) = false := by decide +kernel

theorem witness_SetRate_accepted : State.reset.inBlock = false ∧ (F64.fromBits 1).isFinite = true ∧ F64.zero.lt (F64.fromBits 1) = true ∧
    (F64.fromBits 0x7FEFFFFFFFFFFFFF#64).isFinite = true ∧ F64.zero.lt (F64.fromBits 0x7FEFFFFFFFFFFFFF#64) = true := by decide +kernel

theorem witness_WriteParam_clauses : 255 < 256 ∧ 10 < 11 ∧ 10 ≤ 10 ∧ (F64.fromBits nan).isFinite = false ∧ (F64.fromBits 0).isFinite = true := by decide +kernel

theorem witness_WriteConfig_clauses : (opened 1 0).inBlock = true ∧ rated.inBlock = false ∧ 4 < 5 ∧ 4 ≤ 4 ∧ (F64.fromBits nan).isFinite = false ∧
    (F64.fromBits 0).isFinite = true := by decide +kernel

theorem witness_WriteConfig_hi_mode : (F64.fromBits 0x4018000000000000#64).eq (F64.ofNat 6) = true ∧ (F64.fromBits 0x4020000000000000#64).eq (F64.ofNat 8) = true ∧
    (F64.fromBits 0x401C000000000000#64).eq (F64.ofNat 6) = false ∧ (F64.fromBits 0x401C000000000000#64).eq (F64.ofNat 8) = false ∧
    (F64.fromBits 0x401C000000000000#64).isFinite = true := by decide +kernel

theorem witness_BeginBlock_rejected : 65535 < 65536 ∧ State.reset.rateValid = false ∧ (opened 1 0).inBlock = true := by decide +kernel

theorem witness_BeginBlock_zero_and_longest : rated.rateValid = true ∧ rated.inBlock = false ∧ 0 < 65536 ∧ 65535 ≠ 0 := by decide +kernel

theorem witness_RegisterReads_clauses : 255 < 256 ∧ 10 < 11 ∧ 4 < 5 ∧ 10 ≤ 10 ∧ 4 ≤ 4 := by decide

theorem witness_NoteCommandsOnly_clauses : (Instr.trigger 0 0).opcode ∈ [0x5, 0x6, 0x7, 0x8] ∧ Instr.allOff.opcode ∈ [0x5, 0x6, 0x7, 0x8] ∧
    (opened 2 1).inBlock = true ∧ (opened 2 1).ticksDone ≠ 0 ∧ rated.inBlock = false ∧ (opened 2 0).ticksDone = 0 := by decide +kernel

theorem witness_Trigger_clauses : 127 < 128 ∧ 0 < 128 ∧ (opened 2 1).inBlock = true ∧ (opened 2 1).ticksDone ≠ 0 ∧ (opened 2 0).ticksDone = 0 ∧ 1 ≠ 0 := by decide +kernel

theorem witness_Slide_clauses : 127 < 128 ∧ (opened 2 1).inBlock = true ∧ (opened 2 1).ticksDone ≠ 0 ∧ (opened 2 0).ticksDone = 0 ∧
    (opened 2 0).noteState = .silent ∧ (sounding 2 0).ticksDone = 0 ∧ (sounding 2 0).noteState ≠ .silent := by decide +kernel

theorem witness_Release_clauses : (opened 2 1).inBlock = true ∧ (opened 2 1).ticksDone ≠ 0 ∧ (sounding 2 0).ticksDone = 0 ∧ (sounding 2 0).aStage = .attack ∧
    (opened 2 0).ticksDone = 0 ∧ (opened 2 0).aStage = .idle ∧ rated.sta.allOffMode = .release ∧ clearing.ticksDone = 0 ∧
    clearing.sta.allOffMode = .clear := by decide +kernel

theorem witness_NoteStateMachine_tick : ∃ t : State, exec (.tick 0) (sounding 2 0) = .next t := by exact ⟨_, rfl⟩

theorem witness_NoteStateMachine_notes : (sounding 2 0).ticksDone = 0 ∧ (∃ t, exec (.trigger 1 0) (sounding 2 0) = .next t) ∧ (∃ t, exec (.slide 1) (sounding 2 0) = .next t) ∧
    (∃ t, exec .release (sounding 2 0) = .next t) ∧ ∃ t, exec .allOff (sounding 2 0) = .next t := by exact ⟨rfl, ⟨_, rfl⟩, ⟨_, rfl⟩, ⟨_, rfl⟩, ⟨_, rfl⟩⟩

theorem witness_NoteCommandsLeaveTheRest : (Instr.slide 127).opcode ∈ [0x5, 0x6, 0x7, 0x8] ∧ ∃ t, exec (.slide 127) (sounding 2 0) = .next t := by exact ⟨by decide, _, rfl⟩

theorem witness_TickWithoutABlock : rated.inBlock = false := by decide +kernel

theorem witness_IdleTick_last : (opened 65535 65534).inBlock = true ∧ (opened 65535 65534).idle = true ∧
    (opened 65535 65534).ticksDone.toNat + 1 = (opened 65535 65534).blockLen.toNat := by decide +kernel

theorem witness_IdleTick_inner : (opened 2 0).inBlock = true ∧ (opened 2 0).idle = true ∧ (opened 2 0).ticksDone.toNat + 1 ≠ (opened 2 0).blockLen.toNat := by decide +kernel

theorem witness_SoundingTick : (sounding 2 0).inBlock = true ∧ (sounding 2 0).idle = false := by decide +kernel

theorem witness_SmootherIsLinear_clauses : (opened 4 3).ticksDone.toNat + 1 = (opened 4 3).blockLen.toNat ∧ (opened 4 2).ticksDone.toNat + 1 < (opened 4 2).blockLen.toNat := by decide +kernel

theorem witness_SmootherHoldsAConstant : (F64.ofNat 20000).isFinite = true ∧ 1 ≤ 65535 ∧ 65535 ≤ 65535 := by decide +kernel

theorem witness_SmootherPropertiesAsWritten : Between (Config.REFCFG.paramMin.get .cutoff) (Config.REFCFG.paramMax.get .cutoff) (F64.ofNat 1000) ∧
    Between (Config.REFCFG.paramMin.get .cutoff) (Config.REFCFG.paramMax.get .cutoff) (F64.ofNat 20000) ∧
    1 ≤ 65535 ∧ (F64.ofNat 1000).lt (F64.ofNat 20000) = true := by exact ⟨⟨by decide +kernel, by decide +kernel⟩, ⟨by decide +kernel, by decide +kernel⟩, by decide, by decide +kernel⟩

theorem witness_SmootherIsMonotonic_up : (F64.ofNat 20000).neg.abs.le (F64.ofNat 20000) = true ∧ (F64.ofNat 20).abs.le (F64.ofNat 20000) = true ∧
    (F64.ofNat 20000).neg.le (F64.ofNat 20) = true ∧ 1 ≤ 65534 ∧ 65534 < 65535 := by decide +kernel

theorem witness_SmootherIsMonotonic_down : (F64.ofNat 20000).abs.le (F64.ofNat 20000) = true ∧ (F64.ofNat 20).abs.le (F64.ofNat 20000) = true ∧
    (F64.ofNat 20).le (F64.ofNat 20000) = true ∧ 1 ≤ 1 ∧ 1 < 65535 := by decide +kernel

theorem witness_BlockCloses_at_the_end : (sounding 1 0).inBlock = true ∧ (sounding 1 0).ticksDone = 0 ∧ 1 ≤ [(0 : DataWord)].length ∧
    [(0 : DataWord)].length = (sounding 1 0).blockLen.toNat := by decide +kernel

theorem witness_BlockCloses_before_the_end : (sounding 3 0).inBlock = true ∧ (sounding 3 0).ticksDone = 0 ∧ 1 ≤ [(0 : DataWord), nan].length ∧
    [(0 : DataWord), nan].length < (sounding 3 0).blockLen.toNat := by decide +kernel

theorem witness_IdleBlockStaysSilent : rated.idle = true ∧ (∀ i ∈ [Instr.beginBlock 1, .slide 5, .tick nan], i.opcode ≠ 0x5) ∧
    ∀ i ∈ [Instr.beginBlock 1, .slide 5, .tick nan], i.opcode ≠ 0xA ∧ i.opcode ≠ 0xB ∧ i.opcode ≠ 0xC := by decide +kernel

/-- Also for PhaseInvariantAsWritten. -/
theorem witness_PhaseStays_wrap : F64.zero.le ⟨0x3FEFFFFFFFFFFFFF#64⟩ = true ∧ F64.lt ⟨0x3FEFFFFFFFFFFFFF#64⟩ F64.one = true ∧ F64.zero.le ⟨0x3FE0000000000000#64⟩ = true ∧
    F64.le ⟨0x3FE0000000000000#64⟩ (F64.one.div (F64.ofNat 2)) = true ∧ F64.one.le (F64.add ⟨0x3FEFFFFFFFFFFFFF#64⟩ ⟨0x3FE0000000000000#64⟩) = true := by decide +kernel

theorem witness_PhaseStays_exactly_one : F64.zero.le ⟨0x3FE0000000000000#64⟩ = true ∧ F64.lt ⟨0x3FE0000000000000#64⟩ F64.one = true ∧ F64.le ⟨0x3FE0000000000000#64⟩ (F64.one.div (F64.ofNat 2)) = true ∧
    F64.add ⟨0x3FE0000000000000#64⟩ ⟨0x3FE0000000000000#64⟩ = F64.one := by decide +kernel

theorem witness_OscillatorPass_reference : rated.sta.waveA = .reference ∧ rated.sta.waveB = .reference := by decide +kernel

theorem witness_MainEnvelope_ramp : (sounding 2 0).mStage = .ramp ∧ F64.one.le (rampTo1 (sounding 2 0).sta.mainRampMs (sounding 2 0).fs (sounding 2 0).mLevel) = true ∧
    State.reset.sta.mainRampMs.eq F64.zero = false ∧
    F64.one.le (rampTo1 State.reset.sta.mainRampMs (F64.ofNat 1000) F64.zero) = false := by decide +kernel

theorem witness_MainEnvelope_decay : (F64.mul F64.one (decayMul Config.TESTCFG (F64.ofNat 200) (F64.ofNat 1000))).le Config.TESTCFG.envEps = false ∧
    (F64.mul ⟨0x3EB0C6F7A0B5ED8D#64⟩ (decayMul Config.TESTCFG (F64.ofNat 200) (F64.ofNat 1000))).le Config.TESTCFG.envEps = true := by decide +kernel

theorem witness_AmplitudeEnvelope_attack : F64.one.le (rampTo1 Config.TESTCFG.ampAttackMs (F64.ofNat 1000) ⟨0x3FE8000000000000#64⟩) = true ∧
    F64.one.le (rampTo1 Config.TESTCFG.ampAttackMs (F64.ofNat 1000) F64.zero) = false := by decide +kernel

theorem witness_AmplitudeEnvelope_decay : let sus := Config.TESTCFG.ampSustain
    let dec := fun (l : F64) => sus.add ((l.sub sus).mul (decayMul Config.TESTCFG Config.TESTCFG.ampDecayMs (F64.ofNat 1000)))
    ((dec sus).sub sus).le Config.TESTCFG.envEps = true ∧ ((dec F64.one).sub sus).le Config.TESTCFG.envEps = false := by decide +kernel

theorem witness_AmplitudeEnvelope_release : let rel := fun (l : F64) => l.mul (decayMul Config.TESTCFG Config.TESTCFG.ampReleaseMs (F64.ofNat 1000))
    (rel ⟨0x3EB0C6F7A0B5ED8D#64⟩).le Config.TESTCFG.envEps = true ∧ (rel F64.one).le Config.TESTCFG.envEps = false := by decide +kernel

theorem witness_PathNormalizer_clauses : F64.zero.eq F64.zero = true ∧ (F64.ofNat 200).eq F64.zero = false ∧ (F64.ofNat 200).eq (F64.ofNat 200) = true ∧
    (F64.ofNat 15).eq F64.zero = false ∧ (F64.ofNat 15).eq (F64.ofNat 200) = false ∧
    F64.zero.lt ((F64.ofNat 15).div (F64.ofNat 200)) = true ∧ ((F64.ofNat 15).div (F64.ofNat 200)).isFinite = true := by decide +kernel

/-- The smallest legal path time constant: its quotient with 200 ms rounds to 0. -/
theorem witness_PathNormalizer_no_quotient : F64.eq ⟨1⟩ F64.zero = false ∧ F64.eq ⟨1⟩ (F64.ofNat 200) = false ∧
    F64.zero.lt (F64.div ⟨1⟩ (F64.ofNat 200)) = false ∧ (F64.div ⟨1⟩ (F64.ofNat 200)).isZero = true := by decide +kernel

/-- A time constant over a static decay of 0 ms has an infinite quotient, which is not 0. -/
theorem witness_PathNormalizer_infinite_quotient : (F64.ofNat 15).eq F64.zero = false ∧
    ((F64.ofNat 15).div F64.zero).isFinite = false ∧ ((F64.ofNat 15).div F64.zero).isZero = false := by decide +kernel

/-- 44_filter.md R259: FB_HPF_FC = 0 gives H = 0. -/
theorem test_pole_at_zero : poleCoef Config.TESTCFG F64.zero (F64.ofNat 4000) = F64.zero := by decide +kernel

theorem witness_ModeChange_clauses : FilterMode.ladder = (rated.fA).mode ∧ FilterMode.hp24 ≠ (rated.fA).mode := by decide +kernel

theorem witness_CoefficientsFollow_clauses : (F64.ofNat 1000).eq rated.fA.cut = true ∧ (F64.ofNat 50).eq rated.fA.resRaw = true ∧ F64.zero.eq rated.fA.driveDb = true ∧
    (F64.ofNat 1001).eq rated.fA.cut = false ∧ rated.sta.coefApprox = .reference ∧ rated.sta.resSkew = .reference := by decide +kernel

theorem witness_FilterStep_clauses : (FilterInst.reset Config.TESTCFG .flat).mode = .flat ∧ (FilterInst.reset Config.TESTCFG .ladder).mode ≠ .flat := by decide +kernel

theorem witness_MorphSetup_clauses : F64.le ⟨0x3FE0000000000000#64⟩ rated.sta.morphSplit = true ∧ F64.le ⟨0x3FE0000000000001#64⟩ rated.sta.morphSplit = false ∧
    rated.cfg.morphHiMode = F64.ofNat 8 ∧ ({ rated with cfg := { rated.cfg with morphHiMode := F64.ofNat 6 } } : State).cfg.morphHiMode = F64.ofNat 6 := by decide +kernel

theorem witness_IdleCheck_clauses : Config.TESTCFG.pow10Fn = .reference ∧ rated.noteState = .silent ∧ rated.aStage = .idle ∧ rated.dk.abs.le rated.sta.idleEps = true ∧
    ¬((sounding 2 0).noteState = .silent ∧ (sounding 2 0).aStage = .idle ∧ (sounding 2 0).dk.abs.le (sounding 2 0).sta.idleEps = true) := by decide +kernel

theorem witness_ResetEvent : ({ State.reset with inBlock := true } : State).sta = Config.REFCFG := by decide +kernel

/-- A state with a command waiting, a note sounding and a block open meets the machine's invariant. -/
theorem witness_BlockInv : BlockInv { sounding 2 1 with port := [⟨0x90000000#32, 0⟩] } where
  statics := ⟨by decide, rfl, rfl, rfl, fun j => by cases j <;> decide +kernel⟩
  sequencer := by unfold SequencerOk; decide +kernel
  params := ⟨fun j => by cases j <;> exact ⟨by decide +kernel, by decide +kernel⟩,
    fun j => by cases j <;> exact ⟨by decide +kernel, by decide +kernel⟩,
    fun j => by cases j <;> exact ⟨by decide +kernel, by decide +kernel⟩⟩
  config := ⟨fun a => by cases a <;> exact ⟨by decide +kernel, by decide +kernel⟩, by decide +kernel⟩
  modes := by unfold ModesOk; decide +kernel
  rate := by unfold RateOk; decide +kernel
  idle := by unfold IdleOk; decide +kernel
  sections := by unfold SectionsOk; decide +kernel

/-- With witness_BlockInv: the hypotheses of StepKeepsTheInvariant and of StaticParametersNeverChange. -/
theorem witness_StepKeepsTheInvariant : ∃ t : State, step { sounding 2 1 with port := [⟨0x90000000#32, 0⟩] } = .next t := by exact ⟨_, rfl⟩

theorem witness_ErrorBitsAreSticky : Instr.nop ≠ .clearStatus ∧ (∃ t : State, exec .nop { rated with err := ⟨true, false, false, false, false⟩ } = .next t) ∧
    ({ rated with err := ⟨true, false, false, false, false⟩ } : State).err.get .rate = true := by exact ⟨by decide, ⟨_, rfl⟩, rfl⟩

theorem witness_ErrorBitsDoNotMatter : Instr.tick 0 ≠ .readStatus ∧ Instr.clearStatus ≠ .readStatus := by decide

/-- For the three rounding statements, at a tie of the sum. -/
theorem witness_Rounding : F64.one.isFinite = true ∧ F64.isFinite ⟨0x3CA0000000000000#64⟩ = true ∧ (F64.one.add ⟨0x3CA0000000000000#64⟩).isFinite = true ∧
    (F64.one.mul ⟨0x3CA0000000000000#64⟩).isFinite = true ∧ F64.isZero ⟨0x3CA0000000000000#64⟩ = false ∧ (F64.one.div ⟨0x3CA0000000000000#64⟩).isFinite = true := by decide +kernel

end Sys2Proof.Tests
end

section
/-! PROOFS. The step and the port (00_scope.md R3, 20_memory.md R72; log 1). -/

open Sys2Proof Sys2Proof.Machine

namespace Sys2Proof.Machine

theorem step_of_decode_command {s : State} {c : Command} {rest : List Command} {i : Instr}
    (hport : s.port = c :: rest) (hdec : decode c = .command i) :
    step s = exec i { s with port := rest } := by
  have hnext : nextCommand s = some (c, { s with port := rest }) := by
    simp only [nextCommand, hport]
  simp only [step, hnext, hdec]

theorem decodeTableWord_eq_some {nbits w : Nat} {i : Instr} :
    decodeTableWord nbits w = some i ↔ decode (commandOfTableWord nbits w) = .command i := by
  unfold decodeTableWord
  cases decode (commandOfTableWord nbits w) <;> simp

@[simp] theorem withFetchWord_port (s : State) (nbits w : Nat) :
    (s.withFetchWord nbits w).port = commandOfTableWord nbits w :: s.port := rfl

/-- Taking the presented command from the port leaves the state it was presented to. -/
theorem withFetchWord_restore_port (s : State) (nbits w : Nat) :
    { s.withFetchWord nbits w with port := s.port } = s := rfl

end Sys2Proof.Machine

/-- Settles O4, by the step's equation where the first pair decodes. -/
theorem stepRunsTheDecodedCommand : Obligations.StepRunsTheDecodedCommand := by
  unfold Obligations.StepRunsTheDecodedCommand
  intro s c rest i hport hdec
  exact step_of_decode_command hport hdec

/-- Settles O7, as the case of O4's step lemma where the first pair is the one just presented. -/
theorem presentedTableWordIsTheNextStep : Obligations.PresentedTableWordIsTheNextStep := by
  unfold Obligations.PresentedTableWordIsTheNextStep
  intro s nbits w i hword
  rw [step_of_decode_command (withFetchWord_port s nbits w) (decodeTableWord_eq_some.mp hword),
    withFetchWord_restore_port]

end

section
/-! PROOFS. Binary64 fields, and rounding to nearest with ties to even (00_scope.md R12, 20_memory.md R63). -/

namespace Sys2Proof

/-! ## Classes -/

theorem F64.isFinite_iff {x : F64} : x.isFinite = true ↔ x.expOf ≠ 2047 := by
  simp [F64.isFinite]

theorem F64.isNaN_of_isFinite {x : F64} (hx : x.isFinite = true) : x.isNaN = false := by
  simp [F64.isNaN, F64.isFinite_iff.mp hx]

theorem F64.isInf_of_isFinite {x : F64} (hx : x.isFinite = true) : x.isInf = false := by
  simp [F64.isInf, F64.isFinite_iff.mp hx]

theorem F64.mag_pos_of_isZero_eq_false {x : F64} (hx : x.isZero = false) : 0 < x.mag := by
  simpa [F64.isZero, Nat.pos_iff_ne_zero] using hx

theorem F64.fracOf_lt (x : F64) : x.fracOf < 2 ^ 52 := Nat.mod_lt _ (by decide)

/-! ## A sign over a magnitude -/

/-- `n`, or `-n` under a sign. -/
def signed (neg : Bool) (n : Nat) : Int := if neg then -(n : Int) else n

@[simp] theorem signed_false (n : Nat) : signed false n = n := rfl

@[simp] theorem signed_true (n : Nat) : signed true n = -n := rfl

@[simp] theorem natAbs_signed (neg : Bool) (n : Nat) : (signed neg n).natAbs = n := by
  cases neg <;> simp

theorem F64.value_eq_signed (x : F64) : x.value = signed x.signOf x.mag := rfl

theorem signed_not (neg : Bool) (n : Nat) : signed (!neg) n = -signed neg n := by
  cases neg <;> simp

theorem signed_mul_signed (p q : Bool) (m n : Nat) :
    signed p m * signed q n = signed (p != q) (m * n) := by
  cases p <;> cases q <;> simp

theorem signed_mul_two_pow (neg : Bool) (m k : Nat) : signed neg m * 2 ^ k = signed neg (m * 2 ^ k) := by
  cases neg <;> simp

theorem signed_natAbs (s : Int) : signed (decide (s < 0)) s.natAbs = s := by
  unfold signed
  by_cases hs : s < 0
  · rw [if_pos (decide_eq_true hs)]
    omega
  · rw [if_neg (by simpa using hs)]
    omega

/-! ## The Num of a sign and 63 bits -/

section ofSignBits

variable {b : Nat}

theorem F64.toNat_ofSignBits (neg : Bool) (hb : b < 2 ^ 63) :
    (F64.ofSignBits neg b).bits.toNat = (if neg then 2 ^ 63 else 0) + b := by
  cases neg <;> simp [F64.ofSignBits] <;> omega

theorem F64.signOf_ofSignBits (neg : Bool) (hb : b < 2 ^ 63) :
    (F64.ofSignBits neg b).signOf = neg := by
  rw [F64.signOf, BitVec.msb_eq_decide, F64.toNat_ofSignBits neg hb]
  cases neg <;> simp
  omega

theorem F64.expOf_ofSignBits (neg : Bool) (hb : b < 2 ^ 63) :
    (F64.ofSignBits neg b).expOf = b / 2 ^ 52 := by
  rw [F64.expOf, F64.toNat_ofSignBits neg hb]
  cases neg <;> simp <;> omega

theorem F64.fracOf_ofSignBits (neg : Bool) (hb : b < 2 ^ 63) :
    (F64.ofSignBits neg b).fracOf = b % 2 ^ 52 := by
  rw [F64.fracOf, F64.toNat_ofSignBits neg hb]
  cases neg <;> simp
  omega

end ofSignBits

theorem F64.value_ofSignBits_zero (neg : Bool) : (F64.ofSignBits neg 0).value = 0 := by
  cases neg <;> decide

theorem F64.isFinite_infinity (neg : Bool) : (F64.infinity neg).isFinite = false := by
  cases neg <;> decide

/-- The bits `e * 2^52 + k` stand for `k` last places of `2^e` units: also where `k` is `2^53` and carries into the
exponent, and, at `e = 0`, where `k` is a subnormal's fraction. -/
theorem F64.mag_ofSignBits {neg : Bool} {e k : Nat} (hb : e * 2 ^ 52 + k < 2 ^ 63)
    (hlow : e = 0 ∨ 2 ^ 52 ≤ k) (hhigh : k ≤ 2 ^ 53) :
    (F64.ofSignBits neg (e * 2 ^ 52 + k)).mag = k * 2 ^ e := by
  rw [F64.mag, F64.expOf_ofSignBits neg hb, F64.fracOf_ofSignBits neg hb]
  obtain hsub | hnorm | hcarry : k < 2 ^ 52 ∨ (2 ^ 52 ≤ k ∧ k < 2 ^ 53) ∨ k = 2 ^ 53 := by omega
  · obtain rfl : e = 0 := by omega
    have hexp : (0 * 2 ^ 52 + k) / 2 ^ 52 = 0 := by omega
    rw [if_pos hexp]
    omega
  · have hexp : (e * 2 ^ 52 + k) / 2 ^ 52 = e + 1 := by omega
    have hfrac : 2 ^ 52 + (e * 2 ^ 52 + k) % 2 ^ 52 = k := by omega
    rw [hexp, hfrac, if_neg (Nat.succ_ne_zero e), Nat.add_sub_cancel]
  · subst hcarry
    have hexp : (e * 2 ^ 52 + 2 ^ 53) / 2 ^ 52 = e + 2 := by omega
    have hfrac : 2 ^ 52 + (e * 2 ^ 52 + 2 ^ 53) % 2 ^ 52 = 2 ^ 52 := by omega
    rw [hexp, hfrac, if_neg (Nat.succ_ne_zero _), Nat.succ_sub_one, pow_succ]
    ring

/-- From `2^52` last places up, a binary64 magnitude is a whole number of them. -/
theorem F64.two_pow_dvd_mag {x : F64} {e : Nat} (h : 2 ^ 52 * 2 ^ e ≤ x.mag) : 2 ^ e ∣ x.mag := by
  have hfrac := x.fracOf_lt
  rw [F64.mag] at h ⊢
  split at h
  next hsub =>
    have hpos : 0 < 2 ^ e := Nat.two_pow_pos e
    omega
  next hnorm =>
    rw [if_neg hnorm]
    have hle : e ≤ x.expOf - 1 := by
      by_contra hgt
      have hpow : 2 ^ (x.expOf - 1) * 2 ≤ 2 ^ e := by
        rw [← pow_succ]
        exact Nat.pow_le_pow_right (by decide) (by omega)
      have hmag : (2 ^ 52 + x.fracOf) * 2 ^ (x.expOf - 1) < 2 ^ 53 * 2 ^ (x.expOf - 1) :=
        Nat.mul_lt_mul_of_pos_right (by omega) (Nat.two_pow_pos _)
      omega
    exact Dvd.dvd.mul_left (pow_dvd_pow 2 hle) _

/-! ## Rounding a quotient of naturals -/

/-- The quotient rounded down, or its successor: whichever is nearer, and the even one at a tie. -/
theorem roundHalfEven_cases (n d : Nat) :
    (roundHalfEven n d = n / d ∧ (2 * (n % d) < d ∨ (2 * (n % d) = d ∧ n / d % 2 = 0))) ∨
    (roundHalfEven n d = n / d + 1 ∧ (d < 2 * (n % d) ∨ (2 * (n % d) = d ∧ n / d % 2 = 1))) := by
  by_cases hup : d < 2 * (n % d) ∨ (2 * (n % d) = d ∧ n / d % 2 = 1)
  · exact .inr ⟨if_pos hup, hup⟩
  · exact .inl ⟨if_neg hup, by omega⟩

theorem div_le_roundHalfEven (n d : Nat) : n / d ≤ roundHalfEven n d := by
  obtain ⟨hk, -⟩ | ⟨hk, -⟩ := roundHalfEven_cases n d <;> omega

theorem roundHalfEven_le_div_succ (n d : Nat) : roundHalfEven n d ≤ n / d + 1 := by
  obtain ⟨hk, -⟩ | ⟨hk, -⟩ := roundHalfEven_cases n d <;> omega

/-- No integer is nearer to `n / d` than `roundHalfEven n d`, and where another is as near it is even. -/
theorem roundHalfEven_nearest {n d : Nat} (hd : 0 < d) (q : Int) :
    (n - roundHalfEven n d * d : Int).natAbs ≤ (n - q * d : Int).natAbs ∧
    ((n - roundHalfEven n d * d : Int).natAbs = (n - q * d : Int).natAbs →
      q = roundHalfEven n d ∨ roundHalfEven n d % 2 = 0) := by
  have hr : n % d < d := Nat.mod_lt n hd
  have hn : (n : Int) = (n / d : Nat) * d + (n % d : Nat) := by
    exact_mod_cast (Nat.div_add_mod' n d).symm
  obtain ⟨j, rfl⟩ : ∃ j : Int, q = (n / d : Nat) + j := ⟨q - (n / d : Nat), by ring⟩
  have hdist (i : Int) : (n : Int) - ((n / d : Nat) + i) * d = (n % d : Nat) - i * d := by
    rw [hn]
    push_cast
    ring
  have hj : j * d ≤ -d ∨ j = 0 ∨ j = 1 ∨ 2 * d ≤ j * d := by
    obtain hneg | hzero | hone | hbig : j ≤ -1 ∨ j = 0 ∨ j = 1 ∨ 2 ≤ j := by omega
    · exact .inl (by nlinarith)
    · exact .inr (.inl hzero)
    · exact .inr (.inr (.inl hone))
    · exact .inr (.inr (.inr (by nlinarith)))
  rw [hdist]
  obtain ⟨hk, htie⟩ | ⟨hk, htie⟩ := roundHalfEven_cases n d
  · have hdown := hdist 0
    rw [hk]
    rw [add_zero, zero_mul, sub_zero] at hdown
    rw [hdown]
    obtain hneg | rfl | rfl | hbig := hj <;> omega
  · have hup := hdist 1
    rw [hk, Nat.cast_succ, hup]
    obtain hneg | rfl | rfl | hbig := hj <;> omega

/-! ## The binade -/

/-- The quotient lies in the binade of its last place `2 ^ ulpExp n d`, or below `2 ^ 53` where that is one unit. -/
theorem ulpExp_spec (n d : Nat) :
    (ulpExp n d = 0 ∨ 2 ^ 52 * 2 ^ ulpExp n d ≤ n / d) ∧ n / d < 2 ^ 53 * 2 ^ ulpExp n d := by
  have hlt : n / d < 2 ^ ((n / d).log2 + 1) := Nat.lt_log2_self
  obtain hlow | ⟨e, he⟩ : (n / d).log2 ≤ 52 ∨ ∃ e, (n / d).log2 = 52 + e := by
    by_cases hle : (n / d).log2 ≤ 52
    · exact .inl hle
    · exact .inr ⟨(n / d).log2 - 52, by omega⟩
  · have hulp : ulpExp n d = 0 := Nat.sub_eq_zero_of_le hlow
    have hpow : 2 ^ ((n / d).log2 + 1) ≤ 2 ^ 53 := Nat.pow_le_pow_right (by decide) (by omega)
    rw [hulp]
    exact ⟨.inl rfl, by omega⟩
  · have hulp : ulpExp n d = e := by rw [ulpExp, he, Nat.add_sub_cancel_left]
    rw [hulp, ← pow_add, ← pow_add]
    refine ⟨?_, by rwa [he, add_right_comm] at hlt⟩
    by_cases hzero : n / d = 0
    · rw [hzero, Nat.log2_zero] at he
      omega
    · exact .inr (he ▸ Nat.log2_self_le hzero)

/-- The significand of `n / d`: how many last places of its binade it rounds to. -/
def significand (n d : Nat) : Nat := roundHalfEven n (d * 2 ^ ulpExp n d)

theorem significand_le (n d : Nat) : significand n d ≤ 2 ^ 53 := by
  have hlt : n / (d * 2 ^ ulpExp n d) < 2 ^ 53 := by
    rw [← Nat.div_div_eq_div_mul]
    exact Nat.div_lt_of_lt_mul (mul_comm (2 ^ 53) _ ▸ (ulpExp_spec n d).2)
  have := roundHalfEven_le_div_succ n (d * 2 ^ ulpExp n d)
  rw [significand]
  omega

theorem le_significand (n d : Nat) : ulpExp n d = 0 ∨ 2 ^ 52 ≤ significand n d := by
  refine (ulpExp_spec n d).1.imp_right fun hlow => ?_
  have hle : 2 ^ 52 ≤ n / (d * 2 ^ ulpExp n d) := by
    rw [← Nat.div_div_eq_div_mul]
    exact (Nat.le_div_iff_mul_le (Nat.two_pow_pos _)).mpr hlow
  exact hle.trans (div_le_roundHalfEven _ _)

/-! ## The narrowing -/

theorem F64.roundMag_of_isFinite {neg : Bool} {n d : Nat} (hfin : (F64.roundMag neg n d).isFinite = true) :
    ulpExp n d * 2 ^ 52 + significand n d < F64.infBits ∧
    F64.roundMag neg n d = F64.ofSignBits neg (ulpExp n d * 2 ^ 52 + significand n d) := by
  by_cases hover : F64.infBits ≤ ulpExp n d * 2 ^ 52 + significand n d
  · have hinf : F64.roundMag neg n d = F64.infinity neg := if_pos hover
    rw [hinf, F64.isFinite_infinity] at hfin
    contradiction
  · exact ⟨Nat.lt_of_not_le hover, if_neg hover⟩

section roundMag

variable {neg : Bool} {n d : Nat} (hfin : (F64.roundMag neg n d).isFinite = true)
include hfin

theorem F64.value_roundMag :
    (F64.roundMag neg n d).value = signed neg (significand n d * 2 ^ ulpExp n d) := by
  obtain ⟨hlt, heq⟩ := F64.roundMag_of_isFinite hfin
  have hbits : ulpExp n d * 2 ^ 52 + significand n d < 2 ^ 63 := hlt.trans (by decide)
  rw [heq, F64.value_eq_signed, F64.signOf_ofSignBits neg hbits,
    F64.mag_ofSignBits hbits (le_significand n d) (significand_le n d)]

theorem F64.fracOf_roundMag_mod_two :
    (F64.roundMag neg n d).fracOf % 2 = significand n d % 2 := by
  obtain ⟨hlt, heq⟩ := F64.roundMag_of_isFinite hfin
  rw [heq, F64.fracOf_ofSignBits neg (hlt.trans (by decide))]
  omega

end roundMag

/-! ## Nearest, ties to even -/

/-- `r` is a binary64 number nearest to `N / D` units of `2^-1074`, and at a tie with another its fraction is even
(00_scope.md R12). Distances are compared after multiplying by `D`, of either sign. -/
def IsNearestEven (N D : Int) (r : F64) : Prop :=
  ∀ z : F64, z.isFinite = true →
    (N - r.value * D).natAbs ≤ (N - z.value * D).natAbs ∧
    ((N - r.value * D).natAbs = (N - z.value * D).natAbs → z.value = r.value ∨ r.fracOf % 2 = 0)

theorem isNearestEven_neg_neg {N D : Int} {r : F64} :
    IsNearestEven (-N) (-D) r ↔ IsNearestEven N D r := by
  have hdist (v : Int) : (-N - v * -D).natAbs = (N - v * D).natAbs := by
    rw [← Int.natAbs_neg]
    congr 1
    ring
  simp only [IsNearestEven, hdist]

theorem isNearestEven_of_value_eq_zero {D : Int} {r : F64} (hD : D ≠ 0) (hr : r.value = 0) :
    IsNearestEven 0 D r := by
  intro z _
  rw [hr, zero_mul, sub_self, zero_sub, Int.natAbs_neg, Int.natAbs_zero]
  refine ⟨Nat.zero_le _, fun htie => .inl ?_⟩
  exact (mul_eq_zero.mp (Int.natAbs_eq_zero.mp htie.symm)).resolve_right hD

/-- The significand times its last place is nearest among the integers that, from `2^52` last places up, are a whole
number of them. One that is no whole number of last places lies below the binade, and the binade's first number is
nearer. -/
theorem significand_nearest {n d : Nat} (hd : 0 < d) {v : Int}
    (hv : 2 ^ 52 * 2 ^ ulpExp n d ≤ v.natAbs → 2 ^ ulpExp n d ∣ v.natAbs) :
    (n - (significand n d * 2 ^ ulpExp n d : Nat) * d : Int).natAbs ≤ (n - v * d : Int).natAbs ∧
    ((n - (significand n d * 2 ^ ulpExp n d : Nat) * d : Int).natAbs = (n - v * d : Int).natAbs →
      v = (significand n d * 2 ^ ulpExp n d : Nat) ∨ significand n d % 2 = 0) := by
  have hnear := roundHalfEven_nearest (n := n) (Nat.mul_pos hd (Nat.two_pow_pos (ulpExp n d)))
  have hdist (q : Int) : (n : Int) - q * (d * 2 ^ ulpExp n d : Nat) = n - q * 2 ^ ulpExp n d * d := by
    push_cast
    ring
  simp only [hdist] at hnear
  rw [Nat.cast_mul, Nat.cast_pow, Nat.cast_ofNat]
  by_cases hdvd : 2 ^ ulpExp n d ∣ v.natAbs
  · obtain ⟨q, rfl⟩ : (2 ^ ulpExp n d : Int) ∣ v := Int.dvd_natAbs.mp (by exact_mod_cast hdvd)
    rw [mul_comm _ q]
    refine ⟨(hnear q).1, fun heq => ((hnear q).2 heq).imp_left fun hq => ?_⟩
    rw [hq, significand]
  · have hbinade : 2 ^ 52 * 2 ^ ulpExp n d ≤ n / d :=
      (ulpExp_spec n d).1.resolve_left fun hzero => hdvd (by simp [hzero])
    have hfirst : (2 ^ 52 * 2 ^ ulpExp n d * d : Int) ≤ n := by
      exact_mod_cast (Nat.le_div_iff_mul_le hd).mp hbinade
    have hbelow : v < 2 ^ 52 * 2 ^ ulpExp n d := by
      have hlt := Nat.lt_of_not_le (mt hv hdvd)
      zify at hlt
      exact (le_abs_self v).trans_lt hlt
    have hscaled : v * d < 2 ^ 52 * 2 ^ ulpExp n d * d :=
      mul_lt_mul_of_pos_right hbelow (by exact_mod_cast hd)
    have hcloser := (hnear (2 ^ 52)).1
    rw [← significand] at hcloser
    omega

/-- The narrowing rounds `n / d` under a sign to nearest, ties to even. -/
theorem F64.isNearestEven_roundMag {neg : Bool} {n d : Nat} (hd : 0 < d)
    (hfin : (F64.roundMag neg n d).isFinite = true) :
    IsNearestEven (signed neg n) d (F64.roundMag neg n d) := by
  intro z _
  rw [F64.value_roundMag hfin, F64.fracOf_roundMag_mod_two hfin]
  have hz {v : Int} (hv : v.natAbs = z.mag) :=
    significand_nearest (n := n) hd (v := v) (hv ▸ F64.two_pow_dvd_mag)
  cases neg
  case false => exact hz (by rw [F64.value_eq_signed, natAbs_signed])
  case true =>
    have hdist (w : Int) : (-n - w * d : Int).natAbs = (n - -w * d : Int).natAbs := by
      rw [← Int.natAbs_neg]
      congr 1
      ring
    have hneg := hz (v := -z.value) (by rw [Int.natAbs_neg, F64.value_eq_signed, natAbs_signed])
    simpa only [signed_true, hdist, neg_neg, neg_eq_iff_eq_neg] using hneg

/-! ## The operations on finite operands -/

section operands

variable {x y : F64} (hx : x.isFinite = true) (hy : y.isFinite = true)
include hx hy

theorem F64.add_of_isFinite : F64.add x y =
    if x.value + y.value = 0 then F64.ofSignBits (x.signOf && y.signOf) 0
    else F64.roundMag (decide (x.value + y.value < 0)) (x.value + y.value).natAbs 1 := by
  simp [F64.add, F64.isNaN_of_isFinite, F64.isInf_of_isFinite, hx, hy]

theorem F64.mul_of_isFinite :
    F64.mul x y = F64.roundMag (x.signOf != y.signOf) (x.mag * y.mag) (2 ^ 1074) := by
  simp [-Nat.reducePow, F64.mul, F64.isNaN_of_isFinite, F64.isInf_of_isFinite, hx, hy]

theorem F64.div_of_isFinite (hzero : y.isZero = false) :
    F64.div x y = F64.roundMag (x.signOf != y.signOf) (x.mag * 2 ^ 1074) y.mag := by
  simp [-Nat.reducePow, F64.div, F64.isNaN_of_isFinite, F64.isInf_of_isFinite, hx, hy, hzero]

theorem F64.isNearestEven_add (hfin : (x.add y).isFinite = true) :
    IsNearestEven (x.value + y.value) 1 (x.add y) := by
  rw [F64.add_of_isFinite hx hy] at hfin ⊢
  by_cases hsum : x.value + y.value = 0
  · rw [if_pos hsum, hsum]
    exact isNearestEven_of_value_eq_zero one_ne_zero (F64.value_ofSignBits_zero _)
  · rw [if_neg hsum] at hfin ⊢
    simpa only [signed_natAbs, Nat.cast_one] using F64.isNearestEven_roundMag one_pos hfin

theorem F64.isNearestEven_mul (hfin : (x.mul y).isFinite = true) :
    IsNearestEven (x.value * y.value) (2 ^ 1074) (x.mul y) := by
  rw [F64.mul_of_isFinite hx hy] at hfin ⊢
  rw [F64.value_eq_signed x, F64.value_eq_signed y, signed_mul_signed]
  have hnear := F64.isNearestEven_roundMag (pow_pos two_pos 1074) hfin
  rwa [Nat.cast_pow, Nat.cast_ofNat] at hnear

theorem F64.isNearestEven_div (hzero : y.isZero = false) (hfin : (x.div y).isFinite = true) :
    IsNearestEven (x.value * 2 ^ 1074) y.value (x.div y) := by
  rw [F64.div_of_isFinite hx hy hzero] at hfin ⊢
  have hnear := F64.isNearestEven_roundMag (F64.mag_pos_of_isZero_eq_false hzero) hfin
  rw [F64.value_eq_signed x, F64.value_eq_signed y, signed_mul_two_pow]
  generalize y.signOf = q at hnear ⊢
  cases q
  case false => rwa [Bool.bne_false] at hnear ⊢
  case true =>
    rw [Bool.bne_true, signed_not] at hnear
    rwa [Bool.bne_true, ← isNearestEven_neg_neg, signed_true, neg_neg]

end operands

end Sys2Proof

open Sys2Proof

/-- Settles O58: the sum's integer is narrowed over 1. -/
theorem sumIsRoundedToNearestEven : Obligations.SumIsRoundedToNearestEven := by
  unfold Obligations.SumIsRoundedToNearestEven
  intro x y hx hy hfin
  simpa only [IsNearestEven, mul_one] using F64.isNearestEven_add hx hy hfin

/-- Settles O59: the product of the magnitudes is narrowed over `2^1074`. -/
theorem productIsRoundedToNearestEven : Obligations.ProductIsRoundedToNearestEven := by
  unfold Obligations.ProductIsRoundedToNearestEven
  intro x y hx hy hfin
  exact F64.isNearestEven_mul hx hy hfin

/-- Settles O60: the scaled dividend is narrowed over the divisor's magnitude. -/
theorem quotientIsRoundedToNearestEven : Obligations.QuotientIsRoundedToNearestEven := by
  unfold Obligations.QuotientIsRoundedToNearestEven
  intro x y hx hy hzero hfin
  exact F64.isNearestEven_div hx hy hzero hfin

end

section
/-! PROOFS. What a command and a step can do: one relation that lists every path of every command once, from which what
every step keeps is read off (10_state.md R20, R22; 60_exceptions.md R331, R334). -/

open Sys2Proof Sys2Proof.Machine

namespace Sys2Proof

/-! ## The operands of a decoded command (30_encoding.md R83) -/

theorem field_lt (w : CmdWord) (lo len : Nat) : field w lo len < 2 ^ len := BitVec.isLt _

theorem decodeRow_eq_command {w mask matchWord : CmdWord} {i j : Instr} :
    decodeRow w mask matchWord i = .command j ↔ w &&& mask = matchWord ∧ i = j := by
  unfold decodeRow
  split <;> simp_all

theorem wellFormed_of_decode {c : Command} {i : Instr} (hdec : decode c = .command i) : i.WellFormed = true := by
  have haddr : fitsAddr (addrOf c.cmd) = true := decide_eq_true (field_lt c.cmd 0 8)
  have hlen : fitsLen (lenOf c.cmd) = true := decide_eq_true (field_lt c.cmd 0 16)
  have hnote : fitsNote (noteOf c.cmd) = true := decide_eq_true (field_lt c.cmd 0 7)
  have hvel : fitsVel (velOf c.cmd) = true := decide_eq_true (field_lt c.cmd 8 7)
  unfold decode at hdec
  split at hdec
  case h_15 => contradiction
  all_goals
    obtain ⟨-, rfl⟩ := decodeRow_eq_command.mp hdec
    simp only [Instr.WellFormed, haddr, hlen, hnote, hvel, Bool.and_self]

end Sys2Proof

namespace Sys2Proof.Machine

/-! ## Every path of every command -/

/-- `Effect s i t`: a path of the pseudocode of command `i` leads from `s` to `t`. Which error a rejection raises and which
word a read answers is left open. -/
inductive Effect (s : State) : Instr → State → Prop where
  | rejected {i : Instr} (e : ErrCode) (responds : Bool) : Effect s i (raise e responds s)
  | responded {i : Instr} (v : DataWord) : Effect s i (respond v s)
  | unchanged : Effect s .nop s
  | rateLoaded {data : DataWord} (hclosed : s.inBlock = false) (hlegal : legalRate (F64.fromBits data) = true) :
      Effect s (.setRate data) (loadRate (F64.fromBits data) s)
  | paramRequested {addr : Nat} {data : DataWord} (j : ParamId) (hfin : (F64.fromBits data).isFinite = true) :
      Effect s (.writeParam addr data) { s with pQ := s.pQ.set j (clampParam s.sta j (F64.fromBits data)) }
  | configStored {addr : Nat} {data : DataWord} {a : ConfigId} {y : F64}
      (hfin : (F64.fromBits data).isFinite = true) (hvalue : configValue a (F64.fromBits data) = some y) :
      Effect s (.writeConfig addr data) { s with cfg := s.cfg.set a y }
  | blockOpened (len : Nat) (hrate : s.rateValid = true) (hlen : len ≠ 0) :
      Effect s (.beginBlock len) { s with inBlock := true, blockLen := BitVec.ofNat 16 len, ticksDone := 0, pE := s.pQ }
  | triggered {note vel : Nat} : Effect s (.trigger note vel) (triggerAction (BitVec.ofNat 7 note) vel s)
  | slid {note : Nat} :
      Effect s (.slide note)
        { s with
          note := BitVec.ofNat 7 note
          noteState := if s.noteState = .silent then .silent else .sliding }
  /-- TRIGGER with velocity 0, RELEASE, and ALL_OFF in RELEASE mode. -/
  | released {i : Instr} : Effect s i (releaseAction s)
  | cleared : Effect s .allOff (clearAction s)
  | ticked {data : DataWord} {r : F64 × State} (hopen : s.inBlock = true)
      (hr : r = render (smoothed s) (inputSample (F64.fromBits data)) (noteInput (F64.fromBits data) s)) :
      Effect s (.tick data) (respond r.1.toBits (blockAdvance r.2))
  | statusCleared : Effect s .clearStatus { s with err := ErrBits.clear }

variable {s t : State}

theorem effect_of_execSetRate {data : DataWord} (h : execSetRate data s = .next t) : Effect s (.setRate data) t := by
  unfold execSetRate at h
  split_ifs at h with hopen hlegal <;> cases h
  · exact .rejected .seq false
  · exact .rejected .rate false
  · exact .rateLoaded (Bool.eq_false_iff.mpr hopen) (by simpa using hlegal)

theorem effect_of_execWriteParam {addr : Nat} {data : DataWord} (h : execWriteParam addr data s = .next t) :
    Effect s (.writeParam addr data) t := by
  unfold execWriteParam at h
  cases hj : paramAt addr with
  | none =>
    simp only [hj] at h
    cases h
    exact .rejected .addr false
  | some j =>
    simp only [hj] at h
    split_ifs at h with hfin <;> cases h
    · exact .rejected .value false
    · exact .paramRequested j (by simpa using hfin)

theorem effect_of_execWriteConfig {addr : Nat} {data : DataWord} (h : execWriteConfig addr data s = .next t) :
    Effect s (.writeConfig addr data) t := by
  unfold execWriteConfig at h
  split at h
  · cases h
    exact .rejected .seq false
  · cases ha : configAt addr with
    | none =>
      simp only [ha] at h
      cases h
      exact .rejected .addr false
    | some a =>
      cases hfin : (F64.fromBits data).isFinite with
      | false =>
        simp only [ha, hfin] at h
        cases h
        exact .rejected .value false
      | true =>
        cases hvalue : configValue a (F64.fromBits data) with
        | none =>
          simp only [ha, hfin, hvalue] at h
          cases h
          exact .rejected .value false
        | some y =>
          simp only [ha, hfin, hvalue] at h
          cases h
          exact .configStored hfin hvalue

theorem effect_of_execBeginBlock {len : Nat} (h : execBeginBlock len s = .next t) : Effect s (.beginBlock len) t := by
  unfold execBeginBlock at h
  split_ifs at h with hrejected hzero <;> cases h
  · exact .rejected .seq false
  · exact .rejected .value false
  · exact .blockOpened len (by simp_all) hzero

theorem effect_of_execTrigger {note vel : Nat} (h : execTrigger note vel s = .next t) :
    Effect s (.trigger note vel) t := by
  unfold execTrigger at h
  split_ifs at h <;> cases h
  · exact .rejected .seq false
  · exact .released
  · exact .triggered

theorem effect_of_execSlide {note : Nat} (h : execSlide note s = .next t) : Effect s (.slide note) t := by
  unfold execSlide at h
  split at h <;> cases h
  · exact .rejected .seq false
  · exact .slid

theorem effect_of_execRelease (h : execRelease s = .next t) : Effect s .release t := by
  unfold execRelease at h
  split_ifs at h <;> cases h
  · exact .rejected .seq false
  · exact .released

theorem effect_of_execAllOff (h : execAllOff s = .next t) : Effect s .allOff t := by
  unfold execAllOff at h
  split at h
  · cases h
    exact .rejected .seq false
  · cases hmode : s.sta.allOffMode <;> simp only [hmode] at h <;> cases h
    · exact .released
    · exact .cleared

theorem effect_of_execTick {data : DataWord} (h : execTick data s = .next t) : Effect s (.tick data) t := by
  unfold execTick at h
  split_ifs at h with hclosed <;> cases h
  · exact .rejected .seq true
  · exact .ticked (by simpa using hclosed) rfl

theorem effect_of_execReadParam {sel : Bool} {addr : Nat} (h : execReadParam sel addr s = .next t) :
    Effect s (.readParam sel addr) t := by
  unfold execReadParam at h
  cases hj : paramAt addr <;> simp only [hj] at h <;> cases h
  · exact .rejected .addr true
  · exact .responded _

theorem effect_of_execReadConfig {addr : Nat} (h : execReadConfig addr s = .next t) : Effect s (.readConfig addr) t := by
  unfold execReadConfig at h
  cases ha : configAt addr <;> simp only [ha] at h <;> cases h
  · exact .rejected .addr true
  · exact .responded _

/-- Whatever a command answers, one of its paths leads there. -/
theorem effect_of_exec {i : Instr} (h : exec i s = .next t) : Effect s i t := by
  cases i with
  | nop => cases h; exact .unchanged
  | setRate data => exact effect_of_execSetRate h
  | writeParam addr data => exact effect_of_execWriteParam h
  | writeConfig addr data => exact effect_of_execWriteConfig h
  | beginBlock len => exact effect_of_execBeginBlock h
  | trigger note vel => exact effect_of_execTrigger h
  | slide note => exact effect_of_execSlide h
  | release => exact effect_of_execRelease h
  | allOff => exact effect_of_execAllOff h
  | tick data => exact effect_of_execTick h
  | readStatus => cases h; exact .responded _
  | readParam sel addr => exact effect_of_execReadParam h
  | readConfig addr => exact effect_of_execReadConfig h
  | clearStatus => cases h; exact .statusCleared

/-- A step waits, or takes the first waiting pair and runs the well-formed command it decodes to; a word that decodes to
none raises an error, which is a path of every command. -/
theorem step_effect (h : step s = .next t) :
    t = s ∨ ∃ (rest : List Command) (i : Instr), i.WellFormed = true ∧ Effect { s with port := rest } i t := by
  cases hport : s.port with
  | nil =>
    simp only [step, nextCommand, hport] at h
    cases h
    exact .inl rfl
  | cons c rest =>
    refine .inr ⟨rest, ?_⟩
    cases hdec : decode c with
    | command i =>
      rw [step_of_decode_command hport hdec] at h
      exact ⟨i, wellFormed_of_decode hdec, effect_of_exec h⟩
    | reservedBits responds =>
      simp only [step, nextCommand, hport, hdec] at h
      cases h
      exact ⟨.nop, rfl, .rejected .cmd responds⟩
    | reservedOpcode =>
      simp only [step, nextCommand, hport, hdec] at h
      cases h
      exact ⟨.nop, rfl, .rejected .cmd false⟩

/-! ## The static parameters (10_state.md R20) -/

@[simp] theorem raise_sta (e : ErrCode) (responds : Bool) (s : State) : (raise e responds s).sta = s.sta := by
  rw [raise_eq]

theorem Effect.sta_eq {i : Instr} (h : Effect s i t) : t.sta = s.sta := by
  cases h with
  | rejected e responds => exact raise_sta e responds s
  | ticked hopen hr => rw [respond_sta, blockAdvance_sta, hr, render_sta, noteInput_sta]
  | _ => rfl

/-! ## The error bits (10_state.md R22) -/

@[simp] theorem raise_err (e : ErrCode) (responds : Bool) (s : State) : (raise e responds s).err = s.err.set e := by
  rw [raise_eq]

theorem noteInput_err_mono (x : F64) {e : ErrCode} (he : s.err.get e = true) : (noteInput x s).err.get e = true := by
  rw [noteInput_eq]
  split
  · exact he
  · exact ErrBits.get_set_mono s.err .value e he

theorem Effect.err_mono {i : Instr} (h : Effect s i t) (hi : i ≠ .clearStatus) {e : ErrCode} (he : s.err.get e = true) :
    t.err.get e = true := by
  cases h with
  | rejected f responds =>
    rw [raise_err]
    exact ErrBits.get_set_mono s.err f e he
  | ticked hopen hr =>
    rw [respond_err, blockAdvance_err, hr, render_err]
    exact noteInput_err_mono _ he
  | statusCleared => exact absurd rfl hi
  | _ => exact he

end Sys2Proof.Machine

/-- Settles O54: no path of a command writes the static parameters. -/
theorem staticParametersNeverChange : Obligations.StaticParametersNeverChange := by
  unfold Obligations.StaticParametersNeverChange
  intro s t hstep
  obtain rfl | ⟨rest, i, -, heffect⟩ := step_effect hstep
  · rfl
  · exact heffect.sta_eq

/-- Settles O55: a path sets error bits or leaves them, but for CLEAR_STATUS. -/
theorem errorBitsAreSticky : Obligations.ErrorBitsAreSticky := by
  unfold Obligations.ErrorBitsAreSticky
  intro i s t e hi hexec he
  exact (effect_of_exec hexec).err_mono hi he

end

section
/-! PROOFS. What every step keeps: the machine's invariant (10_state.md R23, R25, R28, R30, R38; 44_filter.md R258;
45_morph_chain.md R292, R307), operation by operation, then by the paths of `Effect`. -/

open Sys2Proof Sys2Proof.Machine

namespace Sys2Proof

/-! ## Comparisons -/

theorem F64.le_iff {x y : F64} : x.le y = true ↔ x.isNaN = false ∧ y.isNaN = false ∧ x.value ≤ y.value := by
  simp [F64.le, and_assoc]

theorem F64.lt_iff {x y : F64} : x.lt y = true ↔ x.isNaN = false ∧ y.isNaN = false ∧ x.value < y.value := by
  simp [F64.lt, and_assoc]

theorem F64.eq_iff {x y : F64} : x.eq y = true ↔ x.isNaN = false ∧ y.isNaN = false ∧ x.value = y.value := by
  simp [F64.eq, and_assoc]

theorem F64.le_refl_of_le_left {x y : F64} (h : x.le y = true) : x.le x = true := by
  obtain ⟨hx, -, -⟩ := F64.le_iff.mp h
  exact F64.le_iff.mpr ⟨hx, hx, le_rfl⟩

theorem F64.le_refl_of_le_right {x y : F64} (h : x.le y = true) : y.le y = true := by
  obtain ⟨-, hy, -⟩ := F64.le_iff.mp h
  exact F64.le_iff.mpr ⟨hy, hy, le_rfl⟩

/-- Of two Nums neither of which is a NaN, one is at most the other. -/
theorem F64.le_of_lt_eq_false {x y : F64} (hx : x.isNaN = false) (hy : y.isNaN = false) (h : x.lt y = false) :
    y.le x = true := by
  refine F64.le_iff.mpr ⟨hy, hx, not_lt.mp fun hlt => ?_⟩
  rw [F64.lt_iff.mpr ⟨hx, hy, hlt⟩] at h
  contradiction

/-- Equal Nums compare alike, whichever zero they are. -/
theorem F64.eq_congr_left {x y : F64} (h : x.eq y = true) (z : F64) : x.eq z = y.eq z := by
  obtain ⟨hx, hy, hvalue⟩ := F64.eq_iff.mp h
  simp only [F64.eq, hx, hy, hvalue]

theorem F64.le_congr_left {x y : F64} (h : x.eq y = true) (z : F64) : x.le z = y.le z := by
  obtain ⟨hx, hy, hvalue⟩ := F64.eq_iff.mp h
  simp only [F64.le, hx, hy, hvalue]

theorem F64.le_congr_right {x y : F64} (h : x.eq y = true) (z : F64) : z.le x = z.le y := by
  obtain ⟨hx, hy, hvalue⟩ := F64.eq_iff.mp h
  simp only [F64.le, hx, hy, hvalue]

end Sys2Proof

namespace Sys2Proof.Machine

/-! ## Legal values (40_control.md R114, R116) -/

theorem between_clamp {x lo hi : F64} (hx : x.isFinite = true) (hrange : lo.le hi = true) :
    Between lo hi (x.clamp lo hi) := by
  obtain ⟨hlo, hhi, -⟩ := F64.le_iff.mp hrange
  have hnan := F64.isNaN_of_isFinite hx
  unfold F64.clamp
  split_ifs with hbelow habove
  · exact ⟨F64.le_refl_of_le_left hrange, hrange⟩
  · exact ⟨hrange, F64.le_refl_of_le_right hrange⟩
  · exact ⟨F64.le_of_lt_eq_false hnan hlo (Bool.eq_false_iff.mpr hbelow),
      F64.le_of_lt_eq_false hhi hnan (Bool.eq_false_iff.mpr habove)⟩

theorem legalHiMode_iff {x : F64} : legalHiMode x = true ↔ x.eq (F64.ofNat 6) = true ∨ x.eq (F64.ofNat 8) = true := by
  simp [legalHiMode]

theorem between_of_legalHiMode {x : F64} (h : legalHiMode x = true) :
    Between (configMin .morphHiMode) (configMax .morphHiMode) x := by
  obtain hsix | height := legalHiMode_iff.mp h
  · rw [Between, F64.le_congr_right hsix, F64.le_congr_left hsix]
    exact ⟨by decide +kernel, by decide +kernel⟩
  · rw [Between, F64.le_congr_right height, F64.le_congr_left height]
    exact ⟨by decide +kernel, by decide +kernel⟩

/-- The codes 6 and 8 are HP12's and HP24's (44_filter.md R254). -/
theorem modeOfNum_of_legalHiMode {x : F64} (h : legalHiMode x = true) :
    modeOfNum x = some .hp12 ∨ modeOfNum x = some .hp24 := by
  refine (legalHiMode_iff.mp h).imp (fun hsix => ?_) (fun height => ?_)
  · simp only [modeOfNum, F64.eq_congr_left hsix]
    decide +kernel
  · simp only [modeOfNum, F64.eq_congr_left height]
    decide +kernel

/-- What WRITE_CONFIG stores lies in the register's range, and is legal where the register is MORPH_HI_MODE. -/
theorem configValue_legal {a : ConfigId} {x y : F64} (hx : x.isFinite = true) (h : configValue a x = some y) :
    Between (configMin a) (configMax a) y ∧ (a = .morphHiMode → legalHiMode y = true) := by
  cases a with
  | morphHiMode =>
    obtain ⟨hlegal, rfl⟩ : legalHiMode x = true ∧ x = y := by simpa [configValue] using h
    exact ⟨between_of_legalHiMode hlegal, fun _ => hlegal⟩
  | _ =>
    cases h
    exact ⟨between_clamp hx (by decide +kernel), nofun⟩

/-! ## A register of a set written -/

theorem ParamsIn.set {p : StaticParams} {v : ParamSet} (h : ParamsIn p v) {j : ParamId} {x : F64}
    (hx : Between (p.paramMin.get j) (p.paramMax.get j) x) : ParamsIn p (v.set j x) := by
  intro k
  by_cases hk : k = j
  · rwa [hk, ParamSet.get_set_same]
  · rw [ParamSet.get_set_other v x hk]
    exact h k

theorem ConfigOk.set {s : State} (h : ConfigOk s) {a : ConfigId} {x : F64} (hx : Between (configMin a) (configMax a) x)
    (hmode : a = .morphHiMode → legalHiMode x = true) : ConfigOk { s with cfg := s.cfg.set a x } := by
  obtain ⟨hrange, hlegal⟩ := h
  refine ⟨fun b => ?_, ?_⟩
  · by_cases hb : b = a
    · simpa only [hb, ConfigSet.get_set_same] using hx
    · simpa only [ConfigSet.get_set_other s.cfg x hb] using hrange b
  · cases a with
    | morphHiMode => exact hmode rfl
    | _ => exact hlegal

/-! ## Filter A's mode (45_morph_chain.md R292) -/

/-- The modes filter A takes: LADDER, HP12, HP24 (44_filter.md R258). -/
def FilterAMode (m : FilterMode) : Prop := m = .ladder ∨ m = .hp12 ∨ m = .hp24

theorem modesOk_iff {s : State} : ModesOk s ↔ FilterAMode s.fA.mode ∧ s.fB.mode = s.sta.morphBMode := Iff.rfl

theorem filterAMode_modeAFor {s : State} (h : ConfigOk s) (pos : F64) : FilterAMode (modeAFor pos s) := by
  obtain ⟨-, hlegal⟩ := h
  unfold modeAFor
  split
  · exact .inl rfl
  · obtain htwelve | htwentyFour := modeOfNum_of_legalHiMode hlegal
    · rw [htwelve]
      exact .inr (.inl rfl)
    · rw [htwentyFour]
      exact .inr (.inr rfl)

theorem configOk_congr {s t : State} (hcfg : t.cfg = s.cfg) : ConfigOk t ↔ ConfigOk s := by
  unfold ConfigOk
  rw [hcfg]

/-! ## The amplitude envelope at rest (41_note.md R159, 43_envelopes.md R222) -/

/-- The stages of a silent block: resting or in release. -/
def AmpFading (a : AmpStage) : Prop := a = .idle ∨ a = .release

theorem idleOk_iff {s : State} : IdleOk s ↔
    (s.idle = true → s.noteState = .silent ∧ s.aStage = .idle ∧ s.dk = F64.zero) ∧
    (s.noteState = .silent → AmpFading s.aStage) := Iff.rfl

theorem ampFading_ampEnvStep {s : State} (h : AmpFading s.aStage) : AmpFading (ampEnvStep s).aStage := by
  have hstage := ampEnvStep_stage s
  obtain hidle | hrelease := h
  · rw [hidle] at hstage
    exact .inl hstage
  · rw [hrelease] at hstage
    exact hstage

@[simp] theorem mainEnvStep_aStage (tauD : F64) (s : State) : (mainEnvStep tauD s).aStage = s.aStage := by
  rw [mainEnvStep_eq]

theorem ampFading_envStep {s : State} (v : ParamSet) (h : AmpFading s.aStage) : AmpFading (envStep v s).2.aStage := by
  have hbefore : AmpFading (pathStep (mainEnvStep (mainDecayMs v s) s)).aStage := by
    rwa [pathStep_aStage, mainEnvStep_aStage]
  exact ampFading_ampEnvStep hbefore

theorem ampFading_releaseAction (s : State) : AmpFading (releaseAction s).aStage := by
  cases h : s.aStage <;> simp [AmpFading, releaseAction, h]

/-- The idle check sets IDLE only where its condition holds, and DK is 0 then (R307). -/
theorem idleOk_idleCheck {s : State} (hsounding : s.idle = false)
    (hsilent : s.noteState = .silent → AmpFading s.aStage) : IdleOk (idleCheck s) := by
  unfold idleCheck
  split
  next hrest =>
    obtain ⟨hnote, hamp, -⟩ := hrest
    exact idleOk_iff.mpr ⟨fun _ => ⟨hnote, hamp, rfl⟩, hsilent⟩
  next => exact idleOk_iff.mpr ⟨fun hidle => absurd (hsounding.symm.trans hidle) nofun, hsilent⟩

/-! ## What a sounding TICK leaves in the registers of the invariant (42_tick_osc.md R180, R183) -/

section soundTick

variable (v : ParamSet) (x : F64) (s : State)

theorem soundTick_fA_mode : (soundTick v x s).2.fA.mode = modeAFor v.morph (envStep v (pitchStep v s)).2 := by
  simp [soundTick, outputStage_eq, morphSetup]

theorem soundTick_fB_mode : (soundTick v x s).2.fB.mode = s.sta.morphBMode := by
  simp [soundTick, outputStage_eq, morphSetup, pitchStep]

@[simp] theorem soundTick_preHpf_length : (soundTick v x s).2.preHpf.length = s.preHpf.length := by
  simp [soundTick, outputStage_eq, morphSetup, pitchStep]

@[simp] theorem soundTick_aaLpf_length : (soundTick v x s).2.aaLpf.length = s.aaLpf.length := by
  simp [soundTick, outputStage_eq, morphSetup, pitchStep]

@[simp] theorem soundTick_allpass_length : (soundTick v x s).2.allpass.length = s.allpass.length := by
  simp [soundTick, outputStage_eq, morphSetup, pitchStep]

@[simp] theorem soundTick_postHpf_length : (soundTick v x s).2.postHpf.length = s.postHpf.length := by
  simp [soundTick, outputStage_eq, morphSetup, pitchStep]

@[simp] theorem soundTick_notch_length : (soundTick v x s).2.notch.length = s.notch.length := by
  simp [soundTick, outputStage_eq, morphSetup, pitchStep]

/-- The state the idle check sees. -/
theorem soundTick_eq_idleCheck :
    ∃ u : State, (soundTick v x s).2 = idleCheck u ∧ u.idle = s.idle ∧ u.noteState = s.noteState ∧
      u.aStage = (envStep v (pitchStep v s)).2.aStage := by
  unfold soundTick
  simp only
  exact ⟨_, rfl, by simp [outputStage_eq, morphSetup, pitchStep], by simp [outputStage_eq, morphSetup, pitchStep],
    by simp [outputStage_eq, morphSetup]⟩

variable {s}

theorem filterAMode_soundTick (h : ConfigOk s) : FilterAMode (soundTick v x s).2.fA.mode := by
  rw [soundTick_fA_mode]
  refine filterAMode_modeAFor ?_ v.morph
  rwa [configOk_congr (envStep_cfg v (pitchStep v s))]

theorem idleOk_soundTick (hsounding : s.idle = false) (hsilent : s.noteState = .silent → AmpFading s.aStage) :
    IdleOk (soundTick v x s).2 := by
  obtain ⟨u, hu, hidle, hnote, hamp⟩ := soundTick_eq_idleCheck v x s
  rw [hu]
  refine idleOk_idleCheck (hidle.trans hsounding) fun husilent => ?_
  rw [hamp]
  exact ampFading_envStep v (hsilent (hnote.symm.trans husilent))

end soundTick

/-! ## Each operation keeps the invariant -/

section BlockInv

variable {s : State} (h : BlockInv s)
include h

/-- The invariant reads neither the port, nor the responses, nor the error bits. -/
theorem BlockInv.withUnread (port : List Command) (responses : List DataWord) (err : ErrBits) :
    BlockInv { s with port := port, responses := responses, err := err } :=
  ⟨h.statics, h.sequencer, h.params, h.config, h.modes, h.rate, h.idle, h.sections⟩

theorem BlockInv.respond (v : DataWord) : BlockInv (respond v s) := h.withUnread s.port (s.responses ++ [v]) s.err

theorem BlockInv.raise (e : ErrCode) (responds : Bool) : BlockInv (raise e responds s) := by
  rw [raise_eq]
  exact h.withUnread s.port _ _

theorem BlockInv.noteInput (x : F64) : BlockInv (noteInput x s) := by
  rw [noteInput_eq]
  exact h.withUnread s.port s.responses _

theorem BlockInv.loadRate {x : F64} (hlegal : legalRate x = true) : BlockInv (loadRate x s) where
  statics := h.statics
  sequencer := h.sequencer
  params := h.params
  config := h.config
  modes := h.modes
  rate := ⟨fun _ => by simpa [legalRate] using hlegal, nofun⟩
  idle := h.idle
  sections := by simpa [SectionsOk, Machine.loadRate] using h.sections

theorem BlockInv.paramRequested {j : ParamId} {x : F64} (hx : x.isFinite = true) :
    BlockInv { s with pQ := s.pQ.set j (clampParam s.sta j x) } := by
  obtain ⟨-, -, -, -, hranges⟩ := h.statics
  obtain ⟨hC, hQ, hE⟩ := h.params
  exact { h with params := ⟨hC, hQ.set (between_clamp hx (hranges j)), hE⟩ }

theorem BlockInv.configStored {a : ConfigId} {x y : F64} (hx : x.isFinite = true) (hvalue : configValue a x = some y) :
    BlockInv { s with cfg := s.cfg.set a y } := by
  obtain ⟨hrange, hmode⟩ := configValue_legal hx hvalue
  exact { h with config := h.config.set hrange hmode }

theorem BlockInv.blockOpened (hrate : s.rateValid = true) {len : BitVec 16} (hlen : 1 ≤ len.toNat) :
    BlockInv { s with inBlock := true, blockLen := len, ticksDone := 0, pE := s.pQ } := by
  obtain ⟨hC, hQ, -⟩ := h.params
  obtain ⟨hvalid, -⟩ := h.rate
  exact
    { h with
      sequencer := ⟨nofun, fun _ => ⟨hlen, hlen⟩⟩
      params := ⟨hC, hQ, hQ⟩
      rate := ⟨hvalid, fun hinvalid => absurd (hrate.symm.trans hinvalid) nofun⟩ }

theorem BlockInv.triggerAction (note : BitVec 7) (vel : Nat) : BlockInv (triggerAction note vel s) :=
  { h with idle := ⟨nofun, nofun⟩ }

theorem BlockInv.slid (note : BitVec 7) :
    BlockInv { s with note := note, noteState := if s.noteState = .silent then .silent else .sliding } := by
  obtain ⟨hidle, hsilent⟩ := h.idle
  refine { h with idle := ⟨fun hi => ?_, fun hn => hsilent ?_⟩ }
  · obtain ⟨hnote, hamp, hdk⟩ := hidle hi
    exact ⟨if_pos hnote, hamp, hdk⟩
  · by_contra hnote
    simp only [if_neg hnote] at hn
    contradiction

theorem BlockInv.releaseAction : BlockInv (releaseAction s) := by
  obtain ⟨hidle, -⟩ := h.idle
  refine { h with idle := idleOk_iff.mpr ⟨fun hi => ?_, fun _ => ampFading_releaseAction s⟩ }
  obtain ⟨-, hamp, hdk⟩ := hidle hi
  exact ⟨rfl, by simp [Machine.releaseAction, hamp], hdk⟩

theorem BlockInv.clearAction : BlockInv (clearAction s) := by
  obtain ⟨hidle, -⟩ := h.idle
  refine { h with idle := ⟨fun hi => ?_, fun _ => .inl rfl⟩ }
  obtain ⟨-, -, hdk⟩ := hidle hi
  exact ⟨rfl, rfl, hdk⟩

theorem BlockInv.soundTick (hsounding : s.idle = false) (v : ParamSet) (x : F64) : BlockInv (soundTick v x s).2 := by
  obtain ⟨-, hsilent⟩ := idleOk_iff.mp h.idle
  exact
    { statics := by simpa using h.statics
      sequencer := by simpa [SequencerOk] using h.sequencer
      params := by simpa [ParamsOk] using h.params
      config := by simpa [ConfigOk] using h.config
      modes := modesOk_iff.mpr ⟨filterAMode_soundTick v x h.config, by rw [soundTick_fB_mode, soundTick_sta]⟩
      rate := by simpa [RateOk] using h.rate
      idle := idleOk_soundTick v x hsounding hsilent
      sections := by simpa [SectionsOk] using h.sections }

theorem BlockInv.render (v : ParamSet) (x : F64) : BlockInv (render v x s).2 := by
  unfold Machine.render
  split
  next => exact h
  next hsounding => exact h.soundTick (Bool.eq_false_iff.mpr hsounding) v x

/-- The last TICK commits and closes the block; another leaves a count still below the length, which fits 16 bits. -/
theorem BlockInv.blockAdvance (hopen : s.inBlock = true) : BlockInv (blockAdvance s) := by
  obtain ⟨-, hcount⟩ := h.sequencer
  obtain ⟨hC, hQ, hE⟩ := h.params
  obtain ⟨hvalid, hinvalid⟩ := h.rate
  obtain ⟨hlen, hbelow⟩ := hcount hopen
  by_cases hlast : s.ticksDone.toNat + 1 = s.blockLen.toNat
  · rw [blockAdvance_last hlast]
    exact
      { h with
        sequencer := ⟨fun _ => ⟨rfl, rfl⟩, nofun⟩
        params := ⟨hE, hQ, hE⟩
        rate := ⟨hvalid, fun hr => ⟨(hinvalid hr).1, rfl⟩⟩ }
  · rw [blockAdvance_inner hlast]
    have hnext : (s.ticksDone + 1).toNat < s.blockLen.toNat := by
      have := s.blockLen.isLt
      bv_omega
    exact { h with sequencer := ⟨fun hclosed => absurd (hopen.symm.trans hclosed) nofun, fun _ => ⟨hlen, hnext⟩⟩ }

end BlockInv

/-- Every path of a well-formed command keeps the invariant. -/
theorem Effect.keeps_blockInv {i : Instr} {s t : State} (heffect : Effect s i t) (hwf : i.WellFormed = true)
    (h : BlockInv s) : BlockInv t := by
  cases heffect with
  | rejected e responds => exact h.raise e responds
  | responded v => exact h.respond v
  | unchanged => exact h
  | rateLoaded hclosed hlegal => exact h.loadRate hlegal
  | paramRequested j hfin => exact h.paramRequested hfin
  | configStored hfin hvalue => exact h.configStored hfin hvalue
  | blockOpened len hrate hlen =>
    have hfits : len < 65536 := by simpa [Instr.WellFormed, fitsLen] using hwf
    refine h.blockOpened hrate ?_
    rw [BitVec.toNat_ofNat]
    omega
  | triggered => exact h.triggerAction _ _
  | slid => exact h.slid _
  | released => exact h.releaseAction
  | cleared => exact h.clearAction
  | ticked hopen hr =>
    subst hr
    refine ((h.noteInput _).render _ _ |>.blockAdvance ?_).respond _
    rwa [render_inBlock, noteInput_inBlock]
  | statusCleared => exact h.withUnread s.port s.responses ErrBits.clear

/-! ## Reset (70_reset_and_hazards.md R361) -/

/-- Reset gives the invariant wherever the static parameters' reset values are legal. -/
theorem blockInv_resetWith {p : StaticParams} (hstatics : StaticOk p) (hparams : ParamsIn p p.paramReset)
    (hrange : ∀ a : ConfigId, Between (configMin a) (configMax a) (p.configReset.get a))
    (hlegal : legalHiMode p.configReset.morphHiMode = true) : BlockInv (State.resetWith p) where
  statics := hstatics
  sequencer := ⟨fun _ => ⟨rfl, rfl⟩, nofun⟩
  params := ⟨hparams, hparams, hparams⟩
  config := ⟨hrange, hlegal⟩
  modes := ⟨.inl rfl, rfl⟩
  rate := ⟨nofun, fun _ => ⟨rfl, rfl⟩⟩
  idle := ⟨fun _ => ⟨rfl, rfl, rfl⟩, fun _ => .inl rfl⟩
  sections := by simp [SectionsOk, State.resetWith]

theorem staticOk_REFCFG : StaticOk Config.REFCFG :=
  ⟨by decide, rfl, rfl, rfl, fun j => by cases j <;> decide +kernel⟩

theorem paramReset_REFCFG_in_range : ParamsIn Config.REFCFG Config.REFCFG.paramReset := by
  intro j
  cases j <;> exact ⟨by decide +kernel, by decide +kernel⟩

theorem configReset_REFCFG_in_range (a : ConfigId) :
    Between (configMin a) (configMax a) (Config.REFCFG.configReset.get a) := by
  cases a <;> exact ⟨by decide +kernel, by decide +kernel⟩

end Sys2Proof.Machine

/-- Settles O53: a step waits or takes one path of a well-formed command, and each keeps the invariant. -/
theorem stepKeepsTheInvariant : Obligations.StepKeepsTheInvariant := by
  unfold Obligations.StepKeepsTheInvariant
  intro s t h hstep
  obtain rfl | ⟨rest, i, hwf, heffect⟩ := step_effect hstep
  · exact h
  · exact heffect.keeps_blockInv hwf (h.withUnread rest s.responses s.err)

/-- Settles O52: reset gives the invariant, since REFCFG's reset values are legal. -/
theorem invariantHoldsAtReset : Obligations.InvariantHoldsAtReset :=
  blockInv_resetWith staticOk_REFCFG paramReset_REFCFG_in_range configReset_REFCFG_in_range (by decide +kernel)

end

section
/-! PROOFS. The STATUS word, field by field (10_state.md R21, R37). A bit or a field above the last operand of an
append lies in the first, lower by that operand's width; taken off one by one, the operands leave the field itself. -/

open Sys2Proof Sys2Proof.Machine

namespace Sys2Proof.Machine

theorem getLsbD_append_of_le {m n i : Nat} {x : BitVec m} {y : BitVec n} (h : n ≤ i) :
    (x ++ y).getLsbD i = x.getLsbD (i - n) := by
  rw [BitVec.getLsbD_append, if_neg (not_lt.mpr h)]

theorem getLsbD_append_ofBool {m : Nat} {x : BitVec m} {b : Bool} : (x ++ BitVec.ofBool b).getLsbD 0 = b := by
  rw [BitVec.getLsbD_append, if_pos Nat.one_pos]
  cases b <;> rfl

section statusWord

variable (s : State)

/-! ## The fields of one bit -/

theorem statusWord_rateValid : (statusWord s).getLsbD 0 = s.rateValid := getLsbD_append_ofBool

theorem statusWord_idle : (statusWord s).getLsbD 1 = s.idle := by
  simp (disch := decide) only [statusWord, getLsbD_append_of_le, getLsbD_append_ofBool, Nat.reduceSub]

theorem statusWord_accent : (statusWord s).getLsbD 4 = s.accent := by
  simp (disch := decide) only [statusWord, getLsbD_append_of_le, getLsbD_append_ofBool, Nat.reduceSub]

theorem statusWord_inBlock : (statusWord s).getLsbD 5 = s.inBlock := by
  simp (disch := decide) only [statusWord, getLsbD_append_of_le, getLsbD_append_ofBool, Nat.reduceSub]

theorem statusWord_aHigh : (statusWord s).getLsbD 11 = true ↔ s.fA.mode ≠ .ladder := by
  simp (disch := decide) only [statusWord, getLsbD_append_of_le, getLsbD_append_ofBool, Nat.reduceSub, aHigh,
    decide_eq_true_eq]

/-- The place of an error bit (60_exceptions.md R330). -/
def statusBit : ErrCode → Nat
  | .rate => 16
  | .seq => 17
  | .cmd => 18
  | .addr => 19
  | .value => 20

theorem statusWord_err (e : ErrCode) : (statusWord s).getLsbD (statusBit e) = s.err.get e := by
  cases e <;>
    simp (disch := decide) only [statusWord, getLsbD_append_of_le, getLsbD_append_ofBool, Nat.reduceSub, statusBit,
      ErrBits.get]

theorem statusWord_bit31 : (statusWord s).getLsbD 31 = false := by
  simp (disch := decide) only [statusWord, getLsbD_append_of_le, Nat.reduceSub]
  rw [BitVec.getLsbD_append]
  rfl

/-! ## The wider fields -/

theorem statusWord_noteState : (statusWord s).extractLsb' 2 2 = s.noteState.code := by
  simp (disch := decide) only [statusWord, BitVec.extractLsb'_append_eq_of_le,
    BitVec.extractLsb'_append_eq_right, Nat.reduceSub]

theorem statusWord_aStage : (statusWord s).extractLsb' 6 3 = s.aStage.code := by
  simp (disch := decide) only [statusWord, BitVec.extractLsb'_append_eq_of_le,
    BitVec.extractLsb'_append_eq_right, Nat.reduceSub]

theorem statusWord_mStage : (statusWord s).extractLsb' 9 2 = s.mStage.code := by
  simp (disch := decide) only [statusWord, BitVec.extractLsb'_append_eq_of_le,
    BitVec.extractLsb'_append_eq_right, Nat.reduceSub]

theorem statusWord_bits12_15 : (statusWord s).extractLsb' 12 4 = 0#4 := by
  simp (disch := decide) only [statusWord, BitVec.extractLsb'_append_eq_of_le,
    BitVec.extractLsb'_append_eq_right, Nat.reduceSub]

theorem statusWord_bits21_23 : (statusWord s).extractLsb' 21 3 = 0#3 := by
  simp (disch := decide) only [statusWord, BitVec.extractLsb'_append_eq_of_le,
    BitVec.extractLsb'_append_eq_right, Nat.reduceSub]

theorem statusWord_note : (statusWord s).extractLsb' 24 7 = s.note := by
  simp (disch := decide) only [statusWord, BitVec.extractLsb'_append_eq_of_le,
    BitVec.extractLsb'_append_eq_right, Nat.reduceSub]

theorem statusWord_ticksRemaining : (statusWord s).extractLsb' 32 16 = s.blockLen - s.ticksDone := by
  simp (disch := decide) only [statusWord, BitVec.extractLsb'_append_eq_of_le,
    BitVec.extractLsb'_append_eq_right, Nat.reduceSub, ticksRemaining]

theorem statusWord_bits48_63 : (statusWord s).extractLsb' 48 16 = 0#16 := by
  simp (disch := decide) only [statusWord, BitVec.extractLsb'_append_eq_of_le, Nat.reduceSub]
  rfl

end statusWord

theorem statusWord_reset : statusWord State.reset = 0x000000003C000002#64 := by decide +kernel

end Sys2Proof.Machine

/-- Settles O13, a field at a time. -/
theorem statusWordFields : Obligations.StatusWordFields := by
  unfold Obligations.StatusWordFields
  refine ⟨statusWord_reset, fun s => ⟨statusWord_rateValid s, statusWord_idle s, ?_, statusWord_accent s,
    statusWord_inBlock s, ?_, ?_, statusWord_aHigh s, statusWord_bits12_15 s, statusWord_err s .rate,
    statusWord_err s .seq, statusWord_err s .cmd, statusWord_err s .addr, statusWord_err s .value,
    statusWord_bits21_23 s, statusWord_note s, statusWord_bit31 s, statusWord_ticksRemaining s,
    statusWord_bits48_63 s⟩⟩
  · rw [statusWord_noteState]
    cases s.noteState <;> rfl
  · rw [statusWord_aStage]
    cases s.aStage <;> rfl
  · rw [statusWord_mStage]
    cases s.mStage <;> rfl

end

section
/-! PROOFS. The decoder and the encoder (30_encoding.md R81 to R91). The table of R85 is read once, `decode_eq`: the opcode
selects a row, and the word is that row's command where it carries the row's match word under the row's mask. Round trips
are then about a field put into a word and taken out of it. -/

open Sys2Proof Sys2Proof.Machine

namespace Sys2Proof

/-! ## Fields of a command word (30_encoding.md R82) -/

section field

variable {k n lo len : Nat}

/-- A field of `n` bits shifted to its place `k` is read back from there. -/
theorem extractLsb'_placed (b : BitVec n) (hfit : k + n ≤ 32) :
    (BitVec.zeroExtend 32 b <<< k).extractLsb' k n = b := by
  ext j hj
  simp [show k + j < 32 by omega, hj]

theorem extractLsb'_placed_disjoint (b : BitVec n) (hdisj : lo + len ≤ k ∨ k + n ≤ lo) :
    (BitVec.zeroExtend 32 b <<< k).extractLsb' lo len = 0#len := by
  ext j hj
  simp only [BitVec.getElem_extractLsb', BitVec.getLsbD_shiftLeft, BitVec.getElem_zero]
  obtain h | h := hdisj
  · simp [show lo + j < k by omega]
  · simp [BitVec.getLsbD_of_ge b (lo + j - k) (by omega)]

theorem field_or_placed {c : CmdWord} {b : BitVec n} (hclear : field c k n = 0) (hfit : k + n ≤ 32) :
    field (c ||| BitVec.zeroExtend 32 b <<< k) k n = b.toNat := by
  rw [field, BitVec.extractLsb'_or, BitVec.toNat_or, ← field, hclear, Nat.zero_or, extractLsb'_placed b hfit]

theorem field_or_placed_disjoint (c : CmdWord) (b : BitVec n) (hdisj : lo + len ≤ k ∨ k + n ≤ lo) :
    field (c ||| BitVec.zeroExtend 32 b <<< k) lo len = field c lo len := by
  rw [field, BitVec.extractLsb'_or, extractLsb'_placed_disjoint b hdisj, BitVec.or_zero, field]

/-- The same for a field at position 0, which the encoder writes without a shift. -/
theorem field_or_low {c : CmdWord} {x : Nat} (hclear : field c 0 n = 0) (hfit : n ≤ 32) (hx : x < 2 ^ n) :
    field (c ||| BitVec.zeroExtend 32 (BitVec.ofNat n x)) 0 n = x := by
  have h := field_or_placed (b := BitVec.ofNat n x) hclear (by omega)
  rwa [BitVec.shiftLeft_zero, BitVec.toNat_ofNat, Nat.mod_eq_of_lt hx] at h

theorem field_or_low_disjoint (c : CmdWord) (b : BitVec n) (hdisj : n ≤ lo) :
    field (c ||| BitVec.zeroExtend 32 b) lo len = field c lo len := by
  have h := field_or_placed_disjoint (k := 0) (lo := lo) (len := len) c b (.inr (by omega))
  rwa [BitVec.shiftLeft_zero] at h

/-- The bit `sel` as a field of one bit. -/
theorem selOf_eq_iff {w : CmdWord} {sel : Bool} : selOf w = sel ↔ field w 8 1 = sel.toNat := by
  have hsel : (selOf w).toNat = field w 8 1 := by
    rw [field, BitVec.extractLsb'_toNat, Nat.shiftRight_eq_div_pow]
    exact Nat.toNat_testBit w.toNat 8
  rw [← hsel]
  cases selOf w <;> cases sel <;> decide

/-- The bits of a field. -/
def fieldMask (k n : Nat) : CmdWord := BitVec.zeroExtend 32 (BitVec.allOnes n) <<< k

/-- A field taken out of a word and put back is the word with every other bit cleared. -/
theorem placed_field (w : CmdWord) :
    BitVec.zeroExtend 32 (BitVec.ofNat n (field w k n)) <<< k = w &&& fieldMask k n := by
  rw [field, BitVec.ofNat_toNat, BitVec.setWidth_eq, fieldMask]
  ext j hj
  by_cases hjk : j < k
  · simp [hjk]
  · simp [hjk, show k + (j - k) = j by omega, BitVec.getLsbD_eq_getElem hj, Bool.and_comm]

/-- Two words that agree on the bits of a mask and in a field agree on the bits of both. -/
theorem and_or_fieldMask_congr {w w' m : CmdWord} (hmask : w &&& m = w' &&& m) (hfield : field w k n = field w' k n) :
    w &&& (m ||| fieldMask k n) = w' &&& (m ||| fieldMask k n) := by
  rw [BitVec.and_or_distrib_left, BitVec.and_or_distrib_left, ← placed_field w, ← placed_field w', hmask, hfield]

theorem eq_of_and_eq {w w' m : CmdWord} (hall : m = BitVec.allOnes 32) (hmask : w &&& m = w' &&& m) : w = w' := by
  rwa [hall, BitVec.and_allOnes, BitVec.and_allOnes] at hmask

end field

/-! ## The rows of the table (30_encoding.md R85) -/

/-- The command of the row an opcode selects, its operands read from the pair; the opcodes 0xE and 0xF have no row. -/
def rowCommand (c : Command) : Nat → Option Instr
  | 0x0 => some .nop
  | 0x1 => some (.setRate c.data)
  | 0x2 => some (.writeParam (addrOf c.cmd) c.data)
  | 0x3 => some (.writeConfig (addrOf c.cmd) c.data)
  | 0x4 => some (.beginBlock (lenOf c.cmd))
  | 0x5 => some (.trigger (noteOf c.cmd) (velOf c.cmd))
  | 0x6 => some (.slide (noteOf c.cmd))
  | 0x7 => some .release
  | 0x8 => some .allOff
  | 0x9 => some (.tick c.data)
  | 0xA => some .readStatus
  | 0xB => some (.readParam (selOf c.cmd) (addrOf c.cmd))
  | 0xC => some (.readConfig (addrOf c.cmd))
  | 0xD => some .clearStatus
  | _ => none

/-- The masks of the rows, by opcode. -/
def rowMasks : List CmdWord :=
  [maskZ, maskZ, maskA, maskA, maskL, maskNV, maskN, maskZ, maskZ, maskZ, maskZ, maskAS, maskA, maskZ]

/-- The match word of an opcode's row: the opcode over zeros. -/
def matchWord (op : Nat) : CmdWord := BitVec.ofNat 32 op <<< 28

/-- The decoder is its table: the row of the opcode, or the outcome of a reserved opcode. -/
theorem decode_eq (c : Command) :
    decode c = (rowCommand c (opcodeOf c.cmd)).elim .reservedOpcode
      fun i => decodeRow c.cmd i.formatMask (matchWord (opcodeOf c.cmd)) i := by
  unfold decode rowCommand
  split <;> simp only [*, Option.elim_some, Option.elim_none] <;> rfl

theorem decode_eq_command_iff {c : Command} {i : Instr} :
    decode c = .command i ↔
      rowCommand c (opcodeOf c.cmd) = some i ∧ c.cmd &&& i.formatMask = matchWord (opcodeOf c.cmd) := by
  rw [decode_eq]
  cases rowCommand c (opcodeOf c.cmd) with
  | none => simp
  | some j =>
    simp only [Option.elim_some, decodeRow_eq_command, Option.some.injEq]
    constructor
    · rintro ⟨hmatch, rfl⟩
      exact ⟨rfl, hmatch⟩
    · rintro ⟨rfl, hmatch⟩
      exact ⟨hmatch, rfl⟩

section rowCommand

variable {c : Command} {op : Nat} {i : Instr}

theorem opcode_of_rowCommand (hrow : rowCommand c op = some i) : i.opcode = op := by
  unfold rowCommand at hrow
  split at hrow <;> cases hrow <;> rfl

theorem rowMasks_opcode (i : Instr) : rowMasks[i.opcode]? = some i.formatMask := by
  cases i <;> rfl

theorem opcode_lt (i : Instr) : i.opcode < 14 := (List.getElem?_eq_some_iff.mp (rowMasks_opcode i)).1

theorem rowCommand_eq_none (c : Command) (hop : 14 ≤ op) : rowCommand c op = none := by
  cases hrow : rowCommand c op with
  | none => rfl
  | some i => exact absurd (opcode_of_rowCommand hrow ▸ opcode_lt i) (not_lt.mpr hop)

/-- Every mask of the table belongs to a row. -/
theorem exists_rowCommand {mask : CmdWord} (c : Command) (hmask : rowMasks[op]? = some mask) :
    ∃ i, rowCommand c op = some i ∧ i.formatMask = mask := by
  cases hrow : rowCommand c op with
  | none =>
    have hop : op < 14 := (List.getElem?_eq_some_iff.mp hmask).1
    interval_cases op <;> cases hrow
  | some i =>
    obtain rfl := opcode_of_rowCommand hrow
    exact ⟨i, rfl, Option.some.inj ((rowMasks_opcode i).symm.trans hmask)⟩

/-- The four commands that read their data word read all of it. -/
theorem encodeData_of_rowCommand (hrow : rowCommand c op = some i) (hreads : i.opcode ∈ [0x1, 0x2, 0x3, 0x9]) :
    encodeData i = c.data := by
  obtain rfl := opcode_of_rowCommand hrow
  cases i with
  | setRate | writeParam | writeConfig | tick => cases hrow; rfl
  | _ => simp [Instr.opcode] at hreads

end rowCommand

theorem responds_eq (i : Instr) : i.responds = decide (i.opcode ∈ [0x9, 0xA, 0xB, 0xC]) := by
  cases i <;> rfl

theorem opcodeOf_eq (w : CmdWord) : opcodeOf w = (w >>> 28).toNat := by
  have hlt : w.toNat >>> 28 < 2 ^ 4 := by
    rw [Nat.shiftRight_eq_div_pow]
    omega
  rw [opcodeOf, field, BitVec.extractLsb'_toNat, BitVec.toNat_ushiftRight, Nat.mod_eq_of_lt hlt]

theorem matchWord_opcodeOf (w : CmdWord) : matchWord (opcodeOf w) = (w >>> 28) <<< 28 := by
  rw [matchWord, opcodeOf_eq, BitVec.ofNat_toNat, BitVec.setWidth_eq]

theorem matchWord_eq_append (op : Nat) : matchWord op = BitVec.ofNat 4 op ++ 0#28 := by
  apply BitVec.eq_of_toNat_eq
  rw [matchWord, BitVec.toNat_append, BitVec.toNat_shiftLeft]
  simp only [BitVec.toNat_ofNat, Nat.shiftLeft_eq, Nat.zero_mod, Nat.or_zero]
  omega

/-! ## Decoding what was encoded -/

/-- The law of `EncodesUnderItsOpcode` for every command. -/
theorem encodeWord_and_formatMask (i : Instr) : encodeWord i &&& i.formatMask = matchWord i.opcode := by
  rw [matchWord_eq_append]
  cases i with
  | nop => exact Laws.EncodesUnderItsOpcode.nop
  | setRate data => exact Laws.EncodesUnderItsOpcode.setRate data
  | writeParam addr data => exact Laws.EncodesUnderItsOpcode.writeParam addr data
  | writeConfig addr data => exact Laws.EncodesUnderItsOpcode.writeConfig addr data
  | beginBlock len => exact Laws.EncodesUnderItsOpcode.beginBlock len
  | trigger note vel => exact Laws.EncodesUnderItsOpcode.trigger note vel
  | slide note => exact Laws.EncodesUnderItsOpcode.slide note
  | release => exact Laws.EncodesUnderItsOpcode.release
  | allOff => exact Laws.EncodesUnderItsOpcode.allOff
  | tick data => exact Laws.EncodesUnderItsOpcode.tick data
  | readStatus => exact Laws.EncodesUnderItsOpcode.readStatus
  | readParam sel addr => exact Laws.EncodesUnderItsOpcode.readParam sel addr
  | readConfig addr => exact Laws.EncodesUnderItsOpcode.readConfig addr
  | clearStatus => exact Laws.EncodesUnderItsOpcode.clearStatus

/-- No format's mask leaves out a bit of the opcode (30_encoding.md R81). -/
theorem extractLsb'_formatMask (i : Instr) : i.formatMask.extractLsb' 28 4 = BitVec.allOnes 4 := by
  cases i <;> simp only [Instr.formatMask] <;> rfl

theorem opcodeOf_encodeWord (i : Instr) : opcodeOf (encodeWord i) = i.opcode := by
  have hword : (encodeWord i).extractLsb' 28 4 = BitVec.ofNat 4 i.opcode := by
    calc (encodeWord i).extractLsb' 28 4
        = (encodeWord i &&& i.formatMask).extractLsb' 28 4 := by
          rw [BitVec.extractLsb'_and, extractLsb'_formatMask, BitVec.and_allOnes]
      _ = BitVec.ofNat 4 i.opcode := by
          rw [encodeWord_and_formatMask, matchWord_eq_append, BitVec.extractLsb'_append_eq_left]
  rw [opcodeOf, field, hword, BitVec.toNat_ofNat, Nat.mod_eq_of_lt ((opcode_lt i).trans (by decide))]

/-- The row of the encoded word's opcode reads back the operands put in. -/
theorem rowCommand_encode {i : Instr} (hwf : i.WellFormed = true) : rowCommand (encode i) i.opcode = some i := by
  cases i with
  | nop | setRate | release | allOff | tick | readStatus | clearStatus => rfl
  | writeParam addr data =>
    have haddr : addr < 2 ^ 8 := of_decide_eq_true hwf
    exact congrArg (fun a => some (Instr.writeParam a data)) (field_or_low (by decide) (by decide) haddr)
  | writeConfig addr data =>
    have haddr : addr < 2 ^ 8 := of_decide_eq_true hwf
    exact congrArg (fun a => some (Instr.writeConfig a data)) (field_or_low (by decide) (by decide) haddr)
  | beginBlock len =>
    have hlen : len < 2 ^ 16 := of_decide_eq_true hwf
    exact congrArg (fun n => some (Instr.beginBlock n)) (field_or_low (by decide) (by decide) hlen)
  | slide note =>
    have hnote : note < 2 ^ 7 := of_decide_eq_true hwf
    exact congrArg (fun n => some (Instr.slide n)) (field_or_low (by decide) (by decide) hnote)
  | readConfig addr =>
    have haddr : addr < 2 ^ 8 := of_decide_eq_true hwf
    exact congrArg (fun a => some (Instr.readConfig a)) (field_or_low (by decide) (by decide) haddr)
  | trigger note vel =>
    obtain ⟨hn, hv⟩ := Bool.and_eq_true_iff.mp hwf
    have hnote : note < 2 ^ 7 := of_decide_eq_true hn
    have hvel : vel < 2 ^ 7 := of_decide_eq_true hv
    have hnoteOf : noteOf (encodeWord (.trigger note vel)) = note :=
      field_or_low (field_or_placed_disjoint _ _ (.inl (by decide))) (by decide) hnote
    have hvelOf : velOf (encodeWord (.trigger note vel)) = vel := by
      calc velOf (encodeWord (.trigger note vel))
          = (BitVec.ofNat 7 vel).toNat :=
            (field_or_low_disjoint _ _ (by decide)).trans (field_or_placed (by decide) (by decide))
        _ = vel := Nat.mod_eq_of_lt hvel
    exact congrArg₂ (fun n v => some (Instr.trigger n v)) hnoteOf hvelOf
  | readParam sel addr =>
    have haddr : addr < 2 ^ 8 := of_decide_eq_true hwf
    have haddrOf : addrOf (encodeWord (.readParam sel addr)) = addr :=
      field_or_low (field_or_placed_disjoint _ _ (.inl (by decide))) (by decide) haddr
    have hselOf : selOf (encodeWord (.readParam sel addr)) = sel := by
      refine selOf_eq_iff.mpr ?_
      calc field (encodeWord (.readParam sel addr)) 8 1
          = (BitVec.ofBool sel).toNat :=
            (field_or_low_disjoint _ _ (by decide)).trans (field_or_placed (by decide) (by decide))
        _ = sel.toNat := BitVec.toNat_ofBool sel
    exact congrArg₂ (fun b a => some (Instr.readParam b a)) hselOf haddrOf

theorem decode_encode {i : Instr} (hwf : i.WellFormed = true) : decode (encode i) = .command i := by
  have hop : opcodeOf (encode i).cmd = i.opcode := opcodeOf_encodeWord i
  rw [decode_eq_command_iff, hop]
  exact ⟨rowCommand_encode hwf, encodeWord_and_formatMask i⟩

/-! ## Encoding what was decoded -/

/-- A row reads every bit its mask leaves out: two words that agree under the mask and give one command are one word. -/
theorem cmd_eq_of_rowCommand {c c' : Command} {i : Instr} (hrow : rowCommand c i.opcode = some i)
    (hrow' : rowCommand c' i.opcode = some i) (hmask : c.cmd &&& i.formatMask = c'.cmd &&& i.formatMask) :
    c.cmd = c'.cmd := by
  have hrows : rowCommand c i.opcode = rowCommand c' i.opcode := hrow.trans hrow'.symm
  cases i with
  | nop | setRate | release | allOff | tick | readStatus | clearStatus => exact eq_of_and_eq (m := maskZ) rfl hmask
  | writeParam | writeConfig | readConfig =>
    have haddr : addrOf c.cmd = addrOf c'.cmd := by injection hrows with h; injection h
    exact eq_of_and_eq (by decide) (and_or_fieldMask_congr (m := maskA) hmask haddr)
  | beginBlock =>
    have hlen : lenOf c.cmd = lenOf c'.cmd := by injection hrows with h; injection h
    exact eq_of_and_eq (by decide) (and_or_fieldMask_congr (m := maskL) hmask hlen)
  | slide =>
    have hnote : noteOf c.cmd = noteOf c'.cmd := by injection hrows with h; injection h
    exact eq_of_and_eq (by decide) (and_or_fieldMask_congr (m := maskN) hmask hnote)
  | trigger =>
    obtain ⟨hnote, hvel⟩ : noteOf c.cmd = noteOf c'.cmd ∧ velOf c.cmd = velOf c'.cmd := by
      injection hrows with h; injection h with hn hv; exact ⟨hn, hv⟩
    exact eq_of_and_eq (by decide) (and_or_fieldMask_congr (and_or_fieldMask_congr (m := maskNV) hmask hnote) hvel)
  | readParam =>
    obtain ⟨hsel, haddr⟩ : selOf c.cmd = selOf c'.cmd ∧ addrOf c.cmd = addrOf c'.cmd := by
      injection hrows with h; injection h with hs ha; exact ⟨hs, ha⟩
    have hsel' : field c.cmd 8 1 = field c'.cmd 8 1 := (selOf_eq_iff.mp hsel).trans (selOf_eq_iff.mp rfl).symm
    exact eq_of_and_eq (by decide) (and_or_fieldMask_congr (and_or_fieldMask_congr (m := maskAS) hmask haddr) hsel')

theorem encodeWord_of_decode {c : Command} {i : Instr} (hdec : decode c = .command i) : encodeWord i = c.cmd := by
  obtain ⟨hrow, hmatch⟩ := decode_eq_command_iff.mp hdec
  rw [← opcode_of_rowCommand hrow] at hmatch hrow
  exact cmd_eq_of_rowCommand (rowCommand_encode (wellFormed_of_decode hdec)) hrow
    ((encodeWord_and_formatMask i).trans hmatch.symm)

end Sys2Proof

namespace Sys2Proof.Machine

/-! ## The two rejections (30_encoding.md R86, R88) -/

theorem step_of_decode_reservedOpcode {s : State} {c : Command} {rest : List Command} (hport : s.port = c :: rest)
    (hdec : decode c = .reservedOpcode) :
    step s = .next { s with port := rest, err := { s.err with cmd := true } } := by
  simp only [step, nextCommand, hport, hdec]
  rfl

theorem step_of_decode_reservedBits {s : State} {c : Command} {rest : List Command} {responds : Bool}
    (hport : s.port = c :: rest) (hdec : decode c = .reservedBits responds) :
    step s = .next
      { s with
        port := rest
        err := { s.err with cmd := true }
        responses := if responds then s.responses ++ [0] else s.responses } := by
  simp only [step, nextCommand, hport, hdec, rejectReservedBits, raise_eq]
  rfl

end Sys2Proof.Machine

/-- Settles O1: the word encoded lies under its own row, and the row's fields are the operands put in. -/
theorem encodeThenDecodeGivesTheCommand : Obligations.EncodeThenDecodeGivesTheCommand := by
  unfold Obligations.EncodeThenDecodeGivesTheCommand
  intro i hwf
  exact decode_encode hwf

/-- Settles O2: the encoder's word agrees with the decoded one under the row's mask, where both are the match word, and
in every field, which the row reads. -/
theorem decodeThenEncodeGivesTheWord : Obligations.DecodeThenEncodeGivesTheWord := by
  unfold Obligations.DecodeThenEncodeGivesTheWord
  intro c i hdec
  obtain ⟨hrow, -⟩ := decode_eq_command_iff.mp hdec
  exact ⟨wellFormed_of_decode hdec, encodeWord_of_decode hdec, encodeData_of_rowCommand hrow⟩

/-- Settles O5, from the table's equation: a reserved opcode has no row, and every other opcode's row is matched or
rejected. -/
theorem reservedWordsOnlyRaiseErrCmd : Obligations.ReservedWordsOnlyRaiseErrCmd := by
  unfold Obligations.ReservedWordsOnlyRaiseErrCmd
  intro masks s c rest hport
  rw [← opcodeOf_eq]
  refine ⟨fun hop => ?_, fun mask hmask => ?_⟩
  · have hdec : decode c = .reservedOpcode := by
      rw [decode_eq, rowCommand_eq_none c hop, Option.elim_none]
    exact ⟨hdec, step_of_decode_reservedOpcode hport hdec⟩
  · obtain ⟨i, hrow, rfl⟩ := exists_rowCommand (op := opcodeOf c.cmd) c hmask
    have hop : i.opcode = opcodeOf c.cmd := opcode_of_rowCommand hrow
    rw [← matchWord_opcodeOf]
    refine ⟨fun hmatch => ?_, fun hmatch => ?_⟩
    · have hdec : decode c = .command i := decode_eq_command_iff.mpr ⟨hrow, hmatch⟩
      exact ⟨i, hdec, hop, wellFormed_of_decode hdec, encodeWord_of_decode hdec⟩
    · have hdec : decode c = .reservedBits i.responds := by
        rw [decode_eq, hrow, Option.elim_some, decodeRow, if_neg hmatch]
      refine ⟨fun j => by simp [hdec], ?_⟩
      rw [step_of_decode_reservedBits hport hdec]
      simp only [responds_eq, decide_eq_true_eq, hop]

/-- Settles O3: the encoder's words are computed, and they are read back by O1. -/
theorem workedEncodings : Obligations.WorkedEncodings := by
  unfold Obligations.WorkedEncodings
  exact ⟨rfl, decode_encode (i := .trigger 45 127) rfl, rfl, decode_encode (i := .slide 48) rfl,
    rfl, decode_encode (i := .beginBlock 64) rfl, rfl, decode_encode (i := .writeParam 7 0x3FE0000000000000#64) rfl,
    rfl, decode_encode (i := .setRate 0x40E5888000000000#64) rfl, rfl, decode_encode (i := .readParam true 1) rfl,
    rfl, rfl⟩

end

section
/-! PROOFS. The control commands (40_control.md R110 to R134): each path of a command's pseudocode once, by the check that
selects it, and the words the statements write the commands with. -/

open Sys2Proof Sys2Proof.Machine

namespace Sys2Proof

/-! ## The command words of the statements (30_encoding.md R82) -/

theorem zeroExtend_ofNat {n a : Nat} (hn : n ≤ 32) (ha : a < 2 ^ n) :
    BitVec.zeroExtend 32 (BitVec.ofNat n a) = BitVec.ofNat 32 a := by
  have hpow : 2 ^ n ≤ 2 ^ 32 := Nat.pow_le_pow_right (by decide) hn
  apply BitVec.eq_of_toNat_eq
  rw [BitVec.toNat_setWidth, BitVec.toNat_ofNat, BitVec.toNat_ofNat, Nat.mod_eq_of_lt ha]

/-- A command that ignores its data word is decoded from its command word alone (30_encoding.md R84). -/
theorem decode_encodeWord {i : Instr} (hwf : i.WellFormed = true) (hignores : i.opcode ∉ [0x1, 0x2, 0x3, 0x9])
    (d : DataWord) : decode ⟨encodeWord i, d⟩ = .command i := by
  have hrow : rowCommand ⟨encodeWord i, d⟩ i.opcode = rowCommand (encode i) i.opcode := by
    cases i with
    | setRate | writeParam | writeConfig | tick => simp [Instr.opcode] at hignores
    | _ => rfl
  rw [decode_eq_command_iff, opcodeOf_encodeWord, hrow]
  exact ⟨rowCommand_encode hwf, encodeWord_and_formatMask i⟩

section addr

variable {a : Nat} (ha : a < 256) (d : DataWord)
include ha

theorem decode_writeParam : decode ⟨0x20000000#32 ||| BitVec.ofNat 32 a, d⟩ = .command (.writeParam a d) := by
  have h := decode_encode (i := .writeParam a d) (decide_eq_true ha)
  rwa [encode, encodeWord, zeroExtend_ofNat (by decide) ha] at h

theorem decode_writeConfig : decode ⟨0x30000000#32 ||| BitVec.ofNat 32 a, d⟩ = .command (.writeConfig a d) := by
  have h := decode_encode (i := .writeConfig a d) (decide_eq_true ha)
  rwa [encode, encodeWord, zeroExtend_ofNat (by decide) ha] at h

theorem decode_readConfig : decode ⟨0xC0000000#32 ||| BitVec.ofNat 32 a, d⟩ = .command (.readConfig a) := by
  have h := decode_encodeWord (i := .readConfig a) (decide_eq_true ha) (by simp [Instr.opcode]) d
  rwa [encodeWord, zeroExtend_ofNat (by decide) ha] at h

theorem decode_readParam (sel : Bool) :
    decode ⟨0xB0000000#32 ||| BitVec.zeroExtend 32 (BitVec.ofBool sel) <<< 8 ||| BitVec.ofNat 32 a, d⟩ =
      .command (.readParam sel a) := by
  have h := decode_encodeWord (i := .readParam sel a) (decide_eq_true ha) (by simp [Instr.opcode]) d
  rwa [encodeWord, zeroExtend_ofNat (by decide) ha] at h

end addr

theorem decode_beginBlock {n : Nat} (hn : n < 65536) (d : DataWord) :
    decode ⟨0x40000000#32 ||| BitVec.ofNat 32 n, d⟩ = .command (.beginBlock n) := by
  have h := decode_encodeWord (i := .beginBlock n) (decide_eq_true hn) (by simp [Instr.opcode]) d
  rwa [encodeWord, zeroExtend_ofNat (by decide) hn] at h

/-! ## Registers by address (10_state.md R27, R30) -/

/-- The parameters in the order of their addresses. -/
def ParamSet.inOrder (v : ParamSet) : List F64 :=
  [v.wave, v.cutoff, v.resonance, v.envmod, v.decay, v.accent, v.volume, v.morph, v.drive, v.bend, v.extmix]

/-- The configuration registers in the order of their addresses. -/
def ConfigSet.inOrder (c : ConfigSet) : List F64 :=
  [c.tuning, c.slideTime, c.normalPathTau, c.accentPathTau, c.morphHiMode]

end Sys2Proof

namespace Sys2Proof.Machine

theorem exists_paramAt {a : Nat} (ha : a ≤ 10) :
    ∃ j, paramAt a = some j ∧ ∀ v : ParamSet, v.inOrder[a]? = some (v.get j) := by
  interval_cases a <;> exact ⟨_, rfl, fun v => rfl⟩

theorem paramAt_eq_none {a : Nat} (ha : 10 < a) : paramAt a = none := by
  rw [← Option.not_isSome_iff_eq_none, paramAt_isSome_iff]
  exact not_le.mpr ha

theorem exists_configAt {a : Nat} (ha : a ≤ 4) :
    ∃ j, configAt a = some j ∧ ∀ c : ConfigSet, c.inOrder[a]? = some (c.get j) := by
  interval_cases a <;> exact ⟨_, rfl, fun c => rfl⟩

theorem configAt_eq_none {a : Nat} (ha : 4 < a) : configAt a = none := by
  rw [← Option.not_isSome_iff_eq_none, configAt_isSome_iff]
  exact not_le.mpr ha

/-! ## SET_RATE (R111, R112) -/

/-- Each section of a stage takes the coefficients of its index (45_morph_chain.md R300). -/
theorem loadAuxFrom_eq_mapIdx (choice : FnChoice) (stage : AuxStage) (r : F64) (k : Nat) (bs : List Biquad) :
    loadAuxFrom choice stage r k bs = bs.mapIdx fun i b => { b with coefs := auxCoef choice stage (k + i) r } := by
  induction bs generalizing k with
  | nil => rfl
  | cons b bs ih =>
    rw [loadAuxFrom, ih, List.mapIdx_cons]
    simp only [Nat.add_zero, Nat.add_assoc, Nat.add_comm 1]

theorem loadAux_eq_mapIdx (choice : FnChoice) (stage : AuxStage) (r : F64) (bs : List Biquad) :
    loadAux choice stage r bs = bs.mapIdx fun i b => { b with coefs := auxCoef choice stage i r } := by
  rw [loadAux, loadAuxFrom_eq_mapIdx]
  simp only [Nat.zero_add]

theorem legalRate_iff {x : F64} : legalRate x = true ↔ x.isFinite = true ∧ F64.zero.lt x = true :=
  Bool.and_eq_true_iff

section paths

variable {a : Nat} {d : DataWord} {s : State}

theorem exec_setRate_inBlock (hopen : s.inBlock = true) : exec (.setRate d) s = .next (setErr .seq s) :=
  if_pos hopen

theorem exec_setRate_illegal (hclosed : s.inBlock = false) (hrate : legalRate (F64.fromBits d) = false) :
    exec (.setRate d) s = .next (setErr .rate s) := by
  simp only [exec, execSetRate, hclosed, hrate]
  rfl

theorem exec_setRate_legal (hclosed : s.inBlock = false) (hrate : legalRate (F64.fromBits d) = true) :
    exec (.setRate d) s = .next (loadRate (F64.fromBits d) s) := by
  simp only [exec, execSetRate, hclosed, hrate]
  rfl

/-! ## WRITE_PARAM (R114) -/

theorem exec_writeParam_none (hj : paramAt a = none) : exec (.writeParam a d) s = .next (setErr .addr s) := by
  simp only [exec, execWriteParam, hj]
  rfl

theorem exec_writeParam_nonFinite {j : ParamId} (hj : paramAt a = some j) (hfin : (F64.fromBits d).isFinite = false) :
    exec (.writeParam a d) s = .next (setErr .value s) := by
  simp only [exec, execWriteParam, hj, hfin]
  rfl

theorem exec_writeParam_some {j : ParamId} (hj : paramAt a = some j) (hfin : (F64.fromBits d).isFinite = true) :
    exec (.writeParam a d) s = .next { s with pQ := s.pQ.set j (clampParam s.sta j (F64.fromBits d)) } := by
  simp only [exec, execWriteParam, hj, hfin]
  rfl

/-! ## WRITE_CONFIG (R116) -/

theorem exec_writeConfig_inBlock (hopen : s.inBlock = true) : exec (.writeConfig a d) s = .next (setErr .seq s) :=
  if_pos hopen

section closed

variable (hclosed : s.inBlock = false)
include hclosed

theorem exec_writeConfig_none (hj : configAt a = none) : exec (.writeConfig a d) s = .next (setErr .addr s) := by
  simp only [exec, execWriteConfig, hclosed, hj]
  rfl

variable {j : ConfigId} (hj : configAt a = some j)
include hj

theorem exec_writeConfig_nonFinite (hfin : (F64.fromBits d).isFinite = false) :
    exec (.writeConfig a d) s = .next (setErr .value s) := by
  simp only [exec, execWriteConfig, hclosed, hj, hfin]
  rfl

theorem exec_writeConfig_illegal (hfin : (F64.fromBits d).isFinite = true)
    (hvalue : configValue j (F64.fromBits d) = none) : exec (.writeConfig a d) s = .next (setErr .value s) := by
  simp only [exec, execWriteConfig, hclosed, hj, hfin, hvalue]
  rfl

theorem exec_writeConfig_legal {y : F64} (hfin : (F64.fromBits d).isFinite = true)
    (hvalue : configValue j (F64.fromBits d) = some y) :
    exec (.writeConfig a d) s = .next { s with cfg := s.cfg.set j y } := by
  simp only [exec, execWriteConfig, hclosed, hj, hfin, hvalue]
  rfl

end closed

/-! ## BEGIN_BLOCK (R118) -/

theorem exec_beginBlock_rejected {n : Nat} (h : s.rateValid = false ∨ s.inBlock = true) :
    exec (.beginBlock n) s = .next (setErr .seq s) := if_pos (by simpa using h)

section ready

variable (hrate : s.rateValid = true) (hclosed : s.inBlock = false)
include hrate hclosed

theorem exec_beginBlock_zero : exec (.beginBlock 0) s = .next (setErr .value s) := by
  simp only [exec, execBeginBlock, hrate, hclosed]
  rfl

theorem exec_beginBlock_opens {n : Nat} (hn : n ≠ 0) :
    exec (.beginBlock n) s =
      .next { s with inBlock := true, blockLen := BitVec.ofNat 16 n, ticksDone := 0, pE := s.pQ } := by
  simp only [exec, execBeginBlock, hrate, hclosed, hn]
  rfl

end ready

/-! ## READ_PARAM and READ_CONFIG (R132, R134) -/

theorem exec_readParam_none (sel : Bool) (hj : paramAt a = none) :
    exec (.readParam sel a) s = .next (raise .addr true s) := by
  simp only [exec, execReadParam, hj]

theorem exec_readParam_some (sel : Bool) {j : ParamId} (hj : paramAt a = some j) :
    exec (.readParam sel a) s = .next (respond (if sel then s.pQ.get j else s.pC.get j).toBits s) := by
  simp only [exec, execReadParam, hj]

theorem exec_readConfig_none (hj : configAt a = none) : exec (.readConfig a) s = .next (raise .addr true s) := by
  simp only [exec, execReadConfig, hj]

theorem exec_readConfig_some {j : ConfigId} (hj : configAt a = some j) :
    exec (.readConfig a) s = .next (respond (s.cfg.get j).toBits s) := by
  simp only [exec, execReadConfig, hj]

end paths

end Sys2Proof.Machine

/-- Settles O9: the two rejections, and the accepted rate by what it loads. -/
theorem setRateLoadsEveryCoefficient : Obligations.SetRateLoadsEveryCoefficient := by
  unfold Obligations.SetRateLoadsEveryCoefficient
  intro d s
  refine ⟨decode_encode (i := .setRate d) rfl, fun hopen => exec_setRate_inBlock hopen, fun hclosed hillegal => ?_,
    fun hclosed hfin hpos => ?_⟩
  · have hrate : legalRate (F64.fromBits d) = false := by
      rw [legalRate, Bool.and_eq_false_iff]
      exact hillegal
    exact exec_setRate_illegal hclosed hrate
  · refine (exec_setRate_legal hclosed (legalRate_iff.mpr ⟨hfin, hpos⟩)).trans ?_
    simp only [← loadAux_eq_mapIdx]
    rfl

/-- Settles O8: the word is NOP's encoding, and NOP's meaning is its state. -/
theorem nopChangesNothing : Obligations.NopChangesNothing := by
  unfold Obligations.NopChangesNothing
  exact ⟨decode_encodeWord (i := .nop) rfl (by decide), fun s => rfl⟩

/-- Settles O10: the path of each check, and the write at each address. -/
theorem writeParamStoresTheClampedRequest : Obligations.WriteParamStoresTheClampedRequest := by
  unfold Obligations.WriteParamStoresTheClampedRequest
  intro a d s
  refine ⟨fun ha => decode_writeParam ha d, fun ha => exec_writeParam_none (paramAt_eq_none ha), fun ha hfin => ?_, rfl, rfl,
    fun hfin => ?_⟩
  · obtain ⟨j, hj, -⟩ := exists_paramAt ha
    exact exec_writeParam_nonFinite hj hfin
  · exact ⟨exec_writeParam_some (j := .wave) rfl hfin, exec_writeParam_some (j := .cutoff) rfl hfin,
      exec_writeParam_some (j := .resonance) rfl hfin, exec_writeParam_some (j := .envmod) rfl hfin,
      exec_writeParam_some (j := .decay) rfl hfin, exec_writeParam_some (j := .accent) rfl hfin,
      exec_writeParam_some (j := .volume) rfl hfin, exec_writeParam_some (j := .morph) rfl hfin,
      exec_writeParam_some (j := .drive) rfl hfin, exec_writeParam_some (j := .bend) rfl hfin,
      exec_writeParam_some (j := .extmix) rfl hfin⟩

/-- Settles O11: the path of each check, and the write at each address; MORPH_HI_MODE is legal or rejected. -/
theorem writeConfigStoresALegalValue : Obligations.WriteConfigStoresALegalValue := by
  unfold Obligations.WriteConfigStoresALegalValue
  intro a d s
  refine ⟨fun ha => decode_writeConfig ha d, fun hopen => exec_writeConfig_inBlock hopen,
    fun hclosed ha => exec_writeConfig_none hclosed (configAt_eq_none ha), fun hclosed ha hfin => ?_,
    fun hclosed hfin => ?_⟩
  · obtain ⟨j, hj, -⟩ := exists_configAt ha
    exact exec_writeConfig_nonFinite hclosed hj hfin
  · refine ⟨exec_writeConfig_legal hclosed (j := .tuning) rfl hfin rfl,
      exec_writeConfig_legal hclosed (j := .slideTime) rfl hfin rfl,
      exec_writeConfig_legal hclosed (j := .normalPathTau) rfl hfin rfl,
      exec_writeConfig_legal hclosed (j := .accentPathTau) rfl hfin rfl,
      fun hlegal => ?_,
      fun hsix height => ?_⟩
    · exact exec_writeConfig_legal hclosed (j := .morphHiMode) rfl hfin (if_pos (legalHiMode_iff.mpr hlegal))
    · have hillegal : legalHiMode (F64.fromBits d) = false := by rw [legalHiMode, hsix, height, Bool.or_self]
      exact exec_writeConfig_illegal hclosed (j := .morphHiMode) rfl hfin (if_neg (Bool.eq_false_iff.mp hillegal))

/-- Settles O12: the path of each check; a length of 16 bits is stored as it is. -/
theorem beginBlockLatchesTheRequests : Obligations.BeginBlockLatchesTheRequests := by
  unfold Obligations.BeginBlockLatchesTheRequests
  intro n s hn
  refine ⟨decode_beginBlock hn, fun hrejected => exec_beginBlock_rejected hrejected, fun hrate hclosed hzero => ?_,
    fun hrate hclosed hnonzero => ?_⟩
  · subst hzero
    exact exec_beginBlock_zero hrate hclosed
  · exact ⟨BitVec.ofNat 16 n, BitVec.toNat_ofNat n 16 ▸ Nat.mod_eq_of_lt hn, exec_beginBlock_opens hrate hclosed hnonzero⟩

/-- Settles O14: the two commands' meanings, and the STATUS word of reset. -/
theorem statusIsReadAndCleared : Obligations.StatusIsReadAndCleared := by
  unfold Obligations.StatusIsReadAndCleared
  refine ⟨fun d => ⟨decode_encodeWord (i := .readStatus) rfl (by decide) d,
    decode_encodeWord (i := .clearStatus) rfl (by decide) d⟩, fun s => rfl, fun s => rfl, ?_⟩
  rw [← statusWord_reset]
  rfl

/-- Settles O15: an address names a register, the one its place in the list says, or none. -/
theorem registerReadsRespond : Obligations.RegisterReadsRespond := by
  unfold Obligations.RegisterReadsRespond
  intro a s
  refine ⟨fun ha d => ⟨decode_readParam ha d false, decode_readParam ha d true, decode_readConfig ha d⟩,
    fun ha sel => exec_readParam_none sel (paramAt_eq_none ha), fun ha => exec_readConfig_none (configAt_eq_none ha),
    fun ha => ?_, fun ha => ?_⟩
  · obtain ⟨j, hj, hget⟩ := exists_paramAt ha
    exact ⟨s.pC.get j, s.pQ.get j, hget s.pC, hget s.pQ, exec_readParam_some false hj, exec_readParam_some true hj⟩
  · obtain ⟨j, hj, hget⟩ := exists_configAt ha
    exact ⟨s.cfg.get j, hget s.cfg, exec_readConfig_some hj⟩

end

section
/-! PROOFS. Rounding as a function of the exact result: monotone, odd, and the identity on every binary64 value
(00_scope.md R12). An operation on finite operands then holds the rounded exact result. -/

namespace Sys2Proof

/-! ## Rounding a magnitude -/

theorem roundHalfEven_mono {n m : Nat} (h : n ≤ m) (d : Nat) : roundHalfEven n d ≤ roundHalfEven m d := by
  obtain hlt | heq := (Nat.div_le_div_right (c := d) h).lt_or_eq
  · exact (roundHalfEven_le_div_succ n d).trans (hlt.trans_le (div_le_roundHalfEven m d))
  · have hn := Nat.div_add_mod n d
    have hm := Nat.div_add_mod m d
    rw [heq] at hn
    obtain ⟨hrn, hn'⟩ | ⟨hrn, hn'⟩ := roundHalfEven_cases n d <;>
      obtain ⟨hrm, hm'⟩ | ⟨hrm, hm'⟩ := roundHalfEven_cases m d <;> omega

theorem roundHalfEven_mul_right (n d : Nat) {k : Nat} (hk : 0 < k) :
    roundHalfEven (n * k) (d * k) = roundHalfEven n d := by
  have hlt : d * k < 2 * (n % d * k) ↔ d < 2 * (n % d) := by
    rw [← mul_assoc]
    exact Nat.mul_lt_mul_right hk
  have heq : 2 * (n % d * k) = d * k ↔ 2 * (n % d) = d := by
    rw [← mul_assoc]
    exact Nat.mul_left_inj hk.ne'
  simp only [roundHalfEven, Nat.mul_div_mul_right _ _ hk, Nat.mul_mod_mul_right, hlt, heq]

theorem ulpExp_mono {n m : Nat} (h : n ≤ m) (d : Nat) : ulpExp n d ≤ ulpExp m d := by
  simp only [ulpExp, Nat.log2_eq_log_two]
  exact Nat.sub_le_sub_right (Nat.log_mono_right (Nat.div_le_div_right h)) 52

/-- The magnitude that `n / d` rounds to. -/
def roundedMag (n d : Nat) : Nat := significand n d * 2 ^ ulpExp n d

/-- Within a binade the significand grows; a higher binade begins where the lower one ends. -/
theorem roundedMag_mono {n m : Nat} (h : n ≤ m) (d : Nat) : roundedMag n d ≤ roundedMag m d := by
  obtain heq | hlt := (ulpExp_mono h d).eq_or_lt
  · rw [roundedMag, roundedMag, significand, significand, heq]
    exact Nat.mul_le_mul_right _ (roundHalfEven_mono h _)
  · calc roundedMag n d
        ≤ 2 ^ 53 * 2 ^ ulpExp n d := Nat.mul_le_mul_right _ (significand_le n d)
      _ = 2 ^ 52 * 2 ^ (ulpExp n d + 1) := by ring
      _ ≤ 2 ^ 52 * 2 ^ ulpExp m d := Nat.mul_le_mul_left _ (pow_le_pow_right₀ one_le_two hlt)
      _ ≤ roundedMag m d := Nat.mul_le_mul_right _ ((le_significand m d).resolve_left (Nat.ne_zero_of_lt hlt))

theorem roundedMag_mul_right (n d : Nat) {k : Nat} (hk : 0 < k) : roundedMag (n * k) (d * k) = roundedMag n d := by
  have hulp : ulpExp (n * k) (d * k) = ulpExp n d := by rw [ulpExp, Nat.mul_div_mul_right _ _ hk, ulpExp]
  rw [roundedMag, roundedMag, significand, significand, hulp, mul_right_comm d k, roundHalfEven_mul_right _ _ hk]

/-- A whole number of last places is not rounded. -/
theorem roundedMag_of_dvd {n : Nat} (h : 2 ^ ulpExp n 1 ∣ n) : roundedMag n 1 = n := by
  have hexact : roundHalfEven n (2 ^ ulpExp n 1) = n / 2 ^ ulpExp n 1 := by
    obtain ⟨hk, -⟩ | ⟨-, hup⟩ := roundHalfEven_cases n (2 ^ ulpExp n 1)
    · exact hk
    · rw [Nat.mod_eq_zero_of_dvd h] at hup
      have := Nat.two_pow_pos (ulpExp n 1)
      omega
  rw [roundedMag, significand, one_mul, hexact, Nat.div_mul_cancel h]

theorem ulpExp_eq_zero_or_le (n : Nat) : ulpExp n 1 = 0 ∨ 2 ^ 52 * 2 ^ ulpExp n 1 ≤ n := by
  simpa only [Nat.div_one] using (ulpExp_spec n 1).1

theorem F64.roundedMag_mag (x : F64) : roundedMag x.mag 1 = x.mag := by
  refine roundedMag_of_dvd ?_
  obtain hzero | hbinade := ulpExp_eq_zero_or_le x.mag
  · rw [hzero]
    exact one_dvd _
  · exact F64.two_pow_dvd_mag hbinade

/-- Few enough units of `2 ^ k` are a binary64 magnitude. -/
theorem roundedMag_mul_two_pow {n : Nat} (hn : n < 2 ^ 53) (k : Nat) : roundedMag (n * 2 ^ k) 1 = n * 2 ^ k := by
  refine roundedMag_of_dvd (Dvd.dvd.mul_left (pow_dvd_pow 2 ?_) n)
  obtain hzero | hbinade := ulpExp_eq_zero_or_le (n * 2 ^ k)
  · omega
  · have hlt : 2 ^ (52 + ulpExp (n * 2 ^ k) 1) < 2 ^ (53 + k) := by
      rw [pow_add, pow_add]
      exact hbinade.trans_lt (Nat.mul_lt_mul_of_pos_right hn (Nat.two_pow_pos k))
    have := (pow_lt_pow_iff_right₀ one_lt_two).mp hlt
    omega

theorem roundedMag_le_two_pow {n d k : Nat} (hd : 0 < d) (h : n ≤ 2 ^ k * d) : roundedMag n d ≤ 2 ^ k := by
  calc roundedMag n d
      ≤ roundedMag (1 * 2 ^ k * d) (1 * d) := by
        rw [one_mul, one_mul]
        exact roundedMag_mono h d
    _ = roundedMag (1 * 2 ^ k) 1 := roundedMag_mul_right _ _ hd
    _ = 2 ^ k := by rw [roundedMag_mul_two_pow (by decide), one_mul]

/-- An integer is rounded by at most one part in `2 ^ 53`. -/
theorem roundedMag_le_of_integer (n : Nat) : 2 ^ 53 * roundedMag n 1 ≤ (2 ^ 53 + 1) * n := by
  obtain hzero | hbinade := ulpExp_eq_zero_or_le n
  · have hexact : roundedMag n 1 = n := roundedMag_of_dvd (by rw [hzero]; exact one_dvd n)
    rw [hexact]
    omega
  · have hhalf : 2 * roundedMag n 1 ≤ 2 * n + 2 ^ ulpExp n 1 := by
      rw [roundedMag, significand, one_mul]
      generalize 2 ^ ulpExp n 1 = u
      have hn := Nat.div_add_mod' n u
      obtain ⟨hk, -⟩ | ⟨hk, hup⟩ := roundHalfEven_cases n u
      · rw [hk]
        omega
      · rw [hk, add_mul, one_mul]
        omega
    omega

/-- Just below an integer stands a binary64 magnitude: the integer cut to whole last places. -/
theorem exists_roundedMag_eq_below (n : Nat) :
    ∃ z : Nat, roundedMag z 1 = z ∧ z ≤ n ∧ (2 ^ 52 - 1) * n ≤ 2 ^ 52 * z := by
  have hle : n / 2 ^ ulpExp n 1 * 2 ^ ulpExp n 1 ≤ n := Nat.div_mul_le_self n _
  refine ⟨n / 2 ^ ulpExp n 1 * 2 ^ ulpExp n 1, roundedMag_of_dvd ?_, hle, ?_⟩
  · exact Dvd.dvd.mul_left (pow_dvd_pow 2 (ulpExp_mono hle 1)) _
  · obtain hzero | hbinade := ulpExp_eq_zero_or_le n
    · rw [hzero, pow_zero, Nat.div_one, mul_one]
      omega
    · have hn := Nat.div_add_mod' n (2 ^ ulpExp n 1)
      have hr := Nat.mod_lt n (Nat.two_pow_pos (ulpExp n 1))
      omega

/-! ## Rounding an integer over a natural -/

/-- The value that `N / d` units round to. -/
def rounded (N : Int) (d : Nat) : Int := N.sign * roundedMag N.natAbs d

theorem roundedMag_zero (d : Nat) : roundedMag 0 d = 0 := by
  simp [roundedMag, significand, roundHalfEven]

theorem rounded_natCast (n d : Nat) : rounded n d = roundedMag n d := by
  cases n with
  | zero => simp [rounded, roundedMag_zero]
  | succ n => rw [rounded, Int.sign_natCast_of_ne_zero n.succ_ne_zero, one_mul, Int.natAbs_natCast]

theorem rounded_neg (N : Int) (d : Nat) : rounded (-N) d = -rounded N d := by
  rw [rounded, Int.sign_neg, Int.natAbs_neg, neg_mul, rounded]

theorem rounded_signed (neg : Bool) (n d : Nat) : rounded (signed neg n) d = signed neg (roundedMag n d) := by
  cases neg
  · exact rounded_natCast n d
  · rw [signed_true, signed_true, rounded_neg, rounded_natCast]

theorem rounded_nonneg {N : Int} (h : 0 ≤ N) (d : Nat) : 0 ≤ rounded N d := by
  obtain ⟨n, rfl⟩ := Int.eq_ofNat_of_zero_le h
  rw [rounded_natCast]
  exact Int.natCast_nonneg _

theorem rounded_nonpos {N : Int} (h : N ≤ 0) (d : Nat) : rounded N d ≤ 0 := by
  have := rounded_nonneg (Int.neg_nonneg_of_nonpos h) d
  rw [rounded_neg] at this
  omega

theorem rounded_mono {N M : Int} (h : N ≤ M) (d : Nat) : rounded N d ≤ rounded M d := by
  obtain hN | hN := le_or_gt 0 N
  · lift N to Nat using hN
    lift M to Nat using by omega
    rw [rounded_natCast, rounded_natCast]
    exact_mod_cast roundedMag_mono (by exact_mod_cast h) d
  · obtain hM | hM := le_or_gt 0 M
    · exact (rounded_nonpos hN.le d).trans (rounded_nonneg hM d)
    · obtain ⟨n, rfl⟩ := Int.exists_eq_neg_ofNat hN.le
      obtain ⟨m, rfl⟩ := Int.exists_eq_neg_ofNat hM.le
      rw [rounded_neg, rounded_neg, rounded_natCast, rounded_natCast]
      exact neg_le_neg (by exact_mod_cast roundedMag_mono (by omega) d)

theorem natAbs_rounded (N : Int) (d : Nat) : (rounded N d).natAbs = roundedMag N.natAbs d := by
  obtain ⟨n, rfl | rfl⟩ := N.eq_nat_or_neg
  · rw [rounded_natCast, Int.natAbs_natCast, Int.natAbs_natCast]
  · rw [rounded_neg, rounded_natCast, Int.natAbs_neg, Int.natAbs_neg, Int.natAbs_natCast, Int.natAbs_natCast]

/-- Rounding does not pass a power of two. -/
theorem natAbs_rounded_le {N : Int} {d k : Nat} (hd : 0 < d) (h : N.natAbs ≤ 2 ^ k * d) :
    (rounded N d).natAbs ≤ 2 ^ k := by
  rw [natAbs_rounded]
  exact roundedMag_le_two_pow hd h

theorem rounded_mul_right (N : Int) (d : Nat) {k : Nat} (hk : 0 < k) : rounded (N * k) (d * k) = rounded N d := by
  rw [rounded, rounded, Int.sign_mul, Int.sign_natCast_of_ne_zero hk.ne', mul_one, Int.natAbs_mul,
    Int.natAbs_natCast, roundedMag_mul_right _ _ hk]

theorem rounded_mul_cancel (N : Int) (n : Nat) {k : Nat} (hk : 0 < k) :
    rounded (N * (n * k : Nat)) k = rounded (N * n) 1 := by
  have hscale := rounded_mul_right (N * n) 1 hk
  rwa [one_mul, mul_assoc, ← Nat.cast_mul] at hscale

theorem signed_mul_natCast (neg : Bool) (m k : Nat) : signed neg m * (k : Int) = signed neg (m * k) := by
  cases neg <;> simp

theorem signed_eq_natCast {neg : Bool} {m k : Nat} (hk : 0 < k) (h : signed neg m = k) : neg = false ∧ m = k := by
  cases neg
  · exact ⟨rfl, Int.ofNat.inj h⟩
  · rw [signed_true] at h
    omega

/-! ## What a Num holds -/

/-- A finite Num of value `v`, in units of `2^-1074`. -/
def F64.Holds (x : F64) (v : Int) : Prop := x.isFinite = true ∧ x.value = v

theorem F64.holds_value {x : F64} (hx : x.isFinite = true) : x.Holds x.value := ⟨hx, rfl⟩

theorem F64.Holds.rounded_eq {x : F64} {v : Int} (h : x.Holds v) : rounded v 1 = v := by
  obtain ⟨-, rfl⟩ := h
  rw [F64.value_eq_signed, rounded_signed, F64.roundedMag_mag]

theorem mul_two_pow_lt {n k m : Nat} (hn : n < 2 ^ 53) (hm : 53 + k ≤ m) : n * 2 ^ k < 2 ^ m := by
  calc n * 2 ^ k
      < 2 ^ 53 * 2 ^ k := Nat.mul_lt_mul_of_pos_right hn (Nat.two_pow_pos k)
    _ = 2 ^ (53 + k) := (pow_add ..).symm
    _ ≤ 2 ^ m := pow_le_pow_right₀ one_le_two hm

theorem two_pow_le_mul {n k m : Nat} (hn : 2 ^ 52 ≤ n) (hm : m ≤ 52 + k) : 2 ^ m ≤ n * 2 ^ k := by
  calc 2 ^ m
      ≤ 2 ^ (52 + k) := pow_le_pow_right₀ one_le_two hm
    _ = 2 ^ 52 * 2 ^ k := pow_add ..
    _ ≤ n * 2 ^ k := Nat.mul_le_mul_right _ hn

/-- An infinity counts as `2 ^ 2098`, the first magnitude beyond the largest finite one. -/
theorem F64.isFinite_iff_mag_lt {x : F64} : x.isFinite = true ↔ x.mag < 2 ^ 2098 := by
  have hfrac := x.fracOf_lt
  rw [F64.isFinite_iff, F64.mag]
  constructor
  · intro hfin
    have hexp : x.expOf < 2 ^ 11 := Nat.mod_lt _ (by decide)
    split
    · exact hfrac.trans (pow_lt_pow_right₀ one_lt_two (by decide))
    · exact mul_two_pow_lt (by omega) (by omega)
  · intro hlt hexp
    rw [hexp, if_neg (by decide)] at hlt
    exact absurd hlt (not_lt.mpr (two_pow_le_mul (Nat.le_add_right _ _) (by decide)))

theorem F64.Holds.natAbs_lt {x : F64} {v : Int} (h : x.Holds v) : v.natAbs < 2 ^ 2098 := by
  obtain ⟨hx, rfl⟩ := h
  rw [F64.value_eq_signed, natAbs_signed]
  exact F64.isFinite_iff_mag_lt.mp hx

theorem F64.isFinite_ofSignBits {neg : Bool} {b : Nat} (hb : b < F64.infBits) :
    (F64.ofSignBits neg b).isFinite = true := by
  unfold F64.infBits at hb
  rw [F64.isFinite_iff, F64.expOf_ofSignBits neg (by omega)]
  omega

/-- A magnitude that rounds to less than `2 ^ 2098` is narrowed to a finite Num of the rounded value. -/
theorem F64.holds_roundMag {neg : Bool} {n d : Nat} (h : roundedMag n d < 2 ^ 2098) :
    (F64.roundMag neg n d).Holds (signed neg (roundedMag n d)) := by
  have hbits : ulpExp n d * 2 ^ 52 + significand n d < F64.infBits := by
    unfold F64.infBits
    have hsig := significand_le n d
    obtain hsmall | hlarge := Nat.lt_or_ge (ulpExp n d) 2045
    · omega
    · have hsig' : significand n d < 2 ^ 53 := by
        refine lt_of_mul_lt_mul_right (h.trans_le ?_) (Nat.zero_le (2 ^ ulpExp n d))
        rw [← pow_add]
        exact pow_le_pow_right₀ one_le_two (by omega)
      have hlow : 2 ^ (52 + ulpExp n d) ≤ roundedMag n d :=
        two_pow_le_mul ((le_significand n d).resolve_left (by omega)) le_rfl
      have hulp := (pow_lt_pow_iff_right₀ one_lt_two).mp (hlow.trans_lt h)
      omega
  have heq : F64.roundMag neg n d = F64.ofSignBits neg (ulpExp n d * 2 ^ 52 + significand n d) :=
    if_neg (not_le.mpr hbits)
  have hfin : (F64.roundMag neg n d).isFinite = true := by
    rw [heq]
    exact F64.isFinite_ofSignBits hbits
  exact ⟨hfin, F64.value_roundMag hfin⟩

/-- The conversion of an integer of at most 53 bits is exact (40_control.md R135). -/
theorem F64.holds_ofNat {n : Nat} (hn : n < 2 ^ 53) : (F64.ofNat n).Holds (n * 2 ^ 1074 : Nat) := by
  have hexact := roundedMag_mul_two_pow hn 1074
  have hholds := F64.holds_roundMag (neg := false) (hexact.symm ▸ mul_two_pow_lt hn (by decide : 53 + 1074 ≤ 2098))
  rwa [hexact] at hholds

/-! ## The sign bit (00_scope.md R13) -/

section magnitude

variable {x y : F64} (h : x.bits.toNat % 2 ^ 63 = y.bits.toNat % 2 ^ 63)
include h

theorem F64.expOf_congr : x.expOf = y.expOf := by
  unfold F64.expOf
  omega

theorem F64.mag_congr : x.mag = y.mag := by
  have hfrac : x.fracOf = y.fracOf := by
    unfold F64.fracOf
    omega
  rw [F64.mag, F64.mag, F64.expOf_congr h, hfrac]

end magnitude

theorem F64.toNat_neg_mod (x : F64) : x.neg.bits.toNat % 2 ^ 63 = x.bits.toNat % 2 ^ 63 := by
  rw [F64.neg, BitVec.toNat_xor, Nat.xor_mod_two_pow]
  exact Nat.xor_zero _

theorem F64.toNat_abs_mod (x : F64) : x.abs.bits.toNat % 2 ^ 63 = x.bits.toNat % 2 ^ 63 := by
  rw [F64.abs, BitVec.toNat_and, Nat.and_mod_two_pow, ← Nat.and_two_pow_sub_one_eq_mod _ 63, Nat.and_assoc]
  rfl

theorem F64.signOf_neg (x : F64) : x.neg.signOf = !x.signOf := by
  rw [F64.signOf, F64.neg, BitVec.msb_xor, F64.signOf]
  exact Bool.xor_true _

theorem F64.value_neg (x : F64) : x.neg.value = -x.value := by
  rw [F64.value_eq_signed, F64.value_eq_signed, F64.signOf_neg, F64.mag_congr x.toNat_neg_mod, signed_not]

theorem F64.isFinite_neg (x : F64) : x.neg.isFinite = x.isFinite := by
  rw [F64.isFinite, F64.isFinite, F64.expOf_congr x.toNat_neg_mod]

theorem F64.value_abs (x : F64) : x.abs.value = x.mag := by
  have hsign : x.abs.signOf = false := by
    rw [F64.signOf, F64.abs, BitVec.msb_and]
    exact Bool.and_false _
  rw [F64.value_eq_signed, hsign, F64.mag_congr x.toNat_abs_mod, signed_false]

/-! ## The operations on Nums that hold a value -/

section Holds

variable {x y : F64} {v w : Int} (hx : x.Holds v) (hy : y.Holds w)
include hx

theorem F64.Holds.neg : x.neg.Holds (-v) := by
  obtain ⟨hfin, rfl⟩ := hx
  exact ⟨by rw [F64.isFinite_neg, hfin], F64.value_neg x⟩

include hy

theorem F64.Holds.add (h : (rounded (v + w) 1).natAbs < 2 ^ 2098) : (x.add y).Holds (rounded (v + w) 1) := by
  obtain ⟨hfx, rfl⟩ := hx
  obtain ⟨hfy, rfl⟩ := hy
  rw [F64.add_of_isFinite hfx hfy]
  split
  next hzero =>
    rw [hzero]
    exact ⟨F64.isFinite_ofSignBits (by decide), F64.value_ofSignBits_zero _⟩
  next =>
    rw [natAbs_rounded] at h
    have hholds := F64.holds_roundMag (neg := decide (x.value + y.value < 0)) h
    rwa [← rounded_signed, signed_natAbs] at hholds

theorem F64.Holds.sub (h : (rounded (v - w) 1).natAbs < 2 ^ 2098) : (x.sub y).Holds (rounded (v - w) 1) :=
  hx.add hy.neg h

/-- A product by the integer `n`. -/
theorem F64.Holds.mul_natCast {n : Nat} (hn : w = (n * 2 ^ 1074 : Nat))
    (h : (rounded (v * n) 1).natAbs < 2 ^ 2098) : (x.mul y).Holds (rounded (v * n) 1) := by
  obtain ⟨hfx, rfl⟩ := hx
  obtain ⟨hfy, rfl⟩ := hy
  have hexact : rounded (signed (x.signOf != y.signOf) (x.mag * y.mag)) (2 ^ 1074) = rounded (x.value * n) 1 := by
    rw [← signed_mul_signed, ← F64.value_eq_signed, ← F64.value_eq_signed, hn]
    exact rounded_mul_cancel x.value n (pow_pos two_pos 1074)
  rw [← hexact, rounded_signed] at h ⊢
  rw [natAbs_signed] at h
  rw [F64.mul_of_isFinite hfx hfy]
  exact F64.holds_roundMag h

/-- A quotient by the integer `n`. -/
theorem F64.Holds.div_natCast {n : Nat} (hpos : 0 < n) (hn : w = (n * 2 ^ 1074 : Nat))
    (h : (rounded v n).natAbs < 2 ^ 2098) : (x.div y).Holds (rounded v n) := by
  obtain ⟨hfx, rfl⟩ := hx
  obtain ⟨hfy, rfl⟩ := hy
  obtain ⟨hsign, hmag⟩ := signed_eq_natCast (Nat.mul_pos hpos (pow_pos two_pos 1074)) hn
  have hzero : y.isZero = false := by
    rw [F64.isZero, hmag]
    exact decide_eq_false (Nat.mul_pos hpos (pow_pos two_pos 1074)).ne'
  have hexact : rounded (signed x.signOf (x.mag * 2 ^ 1074)) (n * 2 ^ 1074) = rounded x.value n := by
    rw [← signed_mul_natCast, ← F64.value_eq_signed]
    exact rounded_mul_right x.value n (pow_pos two_pos 1074)
  rw [← hexact, rounded_signed] at h ⊢
  rw [natAbs_signed] at h
  rw [F64.div_of_isFinite hfx hfy hzero, hsign, Bool.bne_false, hmag]
  exact F64.holds_roundMag h

end Holds

/-! ## Comparisons -/

theorem F64.Holds.le_iff {x y : F64} {v w : Int} (hx : x.Holds v) (hy : y.Holds w) : x.le y = true ↔ v ≤ w := by
  obtain ⟨hfx, rfl⟩ := hx
  obtain ⟨hfy, rfl⟩ := hy
  simp [F64.le_iff, F64.isNaN_of_isFinite, hfx, hfy]

theorem F64.Holds.eq_iff {x y : F64} {v w : Int} (hx : x.Holds v) (hy : y.Holds w) : x.eq y = true ↔ v = w := by
  obtain ⟨hfx, rfl⟩ := hx
  obtain ⟨hfy, rfl⟩ := hy
  simp [F64.eq_iff, F64.isNaN_of_isFinite, hfx, hfy]

end Sys2Proof

end

section
/-! PROOFS. The parameter smoother (40_control.md R123 to R127). The value of a TICK is the start plus an offset; computed
on the values of the ends, the offset is odd, grows with the TICK's index, and is at most the difference of the ends. -/

open Sys2Proof Sys2Proof.Machine

namespace Sys2Proof.Machine

/-! ## The offset from the start -/

/-- The rounded `X * i / n`, for ends `X` apart (R123). -/
def rampOffset (X : Int) (i n : Nat) : Int := rounded (rounded (rounded X 1 * i) 1) n

theorem rampOffset_neg (X : Int) (i n : Nat) : rampOffset (-X) i n = -rampOffset X i n := by
  rw [rampOffset, rounded_neg, neg_mul, rounded_neg, rounded_neg, rampOffset]

section rampOffset

variable {X : Int} (hX : 0 ≤ X)
include hX

theorem rampOffset_nonneg (i n : Nat) : 0 ≤ rampOffset X i n :=
  rounded_nonneg (rounded_nonneg (mul_nonneg (rounded_nonneg hX 1) (Int.natCast_nonneg i)) 1) n

theorem rampOffset_mono {i k : Nat} (hik : i ≤ k) (n : Nat) : rampOffset X i n ≤ rampOffset X k n := by
  refine rounded_mono (rounded_mono ?_ 1) n
  exact mul_le_mul_of_nonneg_left (Int.ofNat_le.mpr hik) (rounded_nonneg hX 1)

/-- Before the last TICK of a block the two roundings of `X * i` gain less than the factor `i / n` takes away, so that the
exact quotient is at most a binary64 magnitude that is at most `X`. -/
theorem rampOffset_le {i n : Nat} (hi : i < n) (hn : n ≤ 65535) : rampOffset X i n ≤ X := by
  lift X to Nat using hX
  rw [rampOffset, rounded_natCast, ← Nat.cast_mul, rounded_natCast, rounded_natCast, Int.ofNat_le]
  obtain ⟨z, hz, hzX, hXz⟩ := exists_roundedMag_eq_below X
  have hproduct : roundedMag (roundedMag X 1 * i) 1 ≤ z * n := by
    have hdiff := Nat.mul_le_mul_right i (roundedMag_le_of_integer X)
    have hmul := roundedMag_le_of_integer (roundedMag X 1 * i)
    have hindex : X * i + X ≤ X * n := by
      rw [← Nat.mul_succ]
      exact Nat.mul_le_mul_left X hi
    have hlength : X * n ≤ X * 65535 := Nat.mul_le_mul_left X hn
    have hcut := Nat.mul_le_mul_right n hXz
    rw [mul_assoc, mul_assoc] at hdiff hcut
    omega
  calc roundedMag (roundedMag (roundedMag X 1 * i) 1) n
      ≤ roundedMag (z * n) (1 * n) := by
        rw [one_mul]
        exact roundedMag_mono hproduct n
    _ = z := by rw [roundedMag_mul_right z 1 (Nat.zero_lt_of_lt hi), hz]
    _ ≤ X := hzX

end rampOffset

/-! ## The value of a TICK on the values of the ends -/

/-- `smoothedValue` on the values of the ends. -/
def smoothedInt (C E : Int) (i n : Nat) : Int := if i = n then E else rounded (C + rampOffset (E - C) i n) 1

theorem smoothedInt_neg (C E : Int) (i n : Nat) : smoothedInt (-C) (-E) i n = -smoothedInt C E i n := by
  have hdiff : -E - -C = -(E - C) := by ring
  unfold smoothedInt
  split
  · rfl
  · rw [hdiff, rampOffset_neg, ← neg_add, rounded_neg]

section upward

variable {C E : Int} {i n : Nat} (hC : rounded C 1 = C) (hE : rounded E 1 = E) (hle : C ≤ E) (hn : n ≤ 65535)
include hle

include hC in
theorem le_smoothedInt : C ≤ smoothedInt C E i n := by
  unfold smoothedInt
  split
  · exact hle
  · have hoffset := rampOffset_nonneg (Int.sub_nonneg_of_le hle) i n
    calc C = rounded C 1 := hC.symm
      _ ≤ rounded (C + rampOffset (E - C) i n) 1 := rounded_mono (by omega) 1

include hE hn in
theorem smoothedInt_le (hi : i ≤ n) : smoothedInt C E i n ≤ E := by
  unfold smoothedInt
  split
  · exact le_rfl
  next hlast =>
    have hoffset := rampOffset_le (Int.sub_nonneg_of_le hle) (lt_of_le_of_ne hi hlast) hn
    calc rounded (C + rampOffset (E - C) i n) 1
        ≤ rounded E 1 := rounded_mono (by omega) 1
      _ = E := hE

include hE hn in
theorem smoothedInt_mono (hi : i < n) : smoothedInt C E i n ≤ smoothedInt C E (i + 1) n := by
  by_cases hlast : i + 1 = n
  · rw [show smoothedInt C E (i + 1) n = E from if_pos hlast]
    exact smoothedInt_le hE hle hn hi.le
  · have hoffset := rampOffset_mono (Int.sub_nonneg_of_le hle) (Nat.le_add_right i 1) n
    rw [smoothedInt, smoothedInt, if_neg hi.ne, if_neg hlast]
    exact rounded_mono (by omega) 1

end upward

/-! ## Either direction -/

section between

variable {C E : Int} {i n : Nat} (hC : rounded C 1 = C) (hE : rounded E 1 = E) (hi : i ≤ n) (hn : n ≤ 65535)
include hC hE hi hn

theorem smoothedInt_between_up (hle : C ≤ E) : C ≤ smoothedInt C E i n ∧ smoothedInt C E i n ≤ E :=
  ⟨le_smoothedInt hC hle, smoothedInt_le hE hle hn hi⟩

/-- The way down is the way up of the negated ends. -/
theorem smoothedInt_between_down (hle : E ≤ C) : E ≤ smoothedInt C E i n ∧ smoothedInt C E i n ≤ C := by
  have hup := smoothedInt_between_up (C := -C) (E := -E) (by rw [rounded_neg, hC]) (by rw [rounded_neg, hE]) hi hn
    (neg_le_neg hle)
  rw [smoothedInt_neg] at hup
  omega

omit hC hi in
theorem smoothedInt_anti (hle : E ≤ C) (hlt : i < n) : smoothedInt C E (i + 1) n ≤ smoothedInt C E i n := by
  have hup := smoothedInt_mono (C := -C) (E := -E) (by rw [rounded_neg, hE]) (neg_le_neg hle) hn hlt
  rw [smoothedInt_neg, smoothedInt_neg] at hup
  omega

theorem natAbs_smoothedInt_le : (smoothedInt C E i n).natAbs ≤ max C.natAbs E.natAbs := by
  obtain hle | hle := le_total C E
  · have := smoothedInt_between_up hC hE hi hn hle
    omega
  · have := smoothedInt_between_down hC hE hi hn hle
    omega

end between

/-! ## The value of a TICK -/

/-- `smoothedValue` computes `smoothedInt` on the values, for ends not so far apart that an intermediate result
overflows. -/
theorem smoothedValue_holds {c e : F64} {C E : Int} {i k n : Nat} (hc : c.Holds C) (he : e.Holds E) (hk : k + 16 < 2098)
    (hdiff : (E - C).natAbs ≤ 2 ^ k) (hpos : 1 ≤ i) (hi : i ≤ n) (hn : n ≤ 65535) :
    (smoothedValue c e i n).Holds (smoothedInt C E i n) := by
  have hbound := natAbs_smoothedInt_le hc.rounded_eq he.rounded_eq hi hn
  have hlt {v : Int} (hv : v.natAbs ≤ 2 ^ (k + 16)) : v.natAbs < 2 ^ 2098 :=
    hv.trans_lt (pow_lt_pow_right₀ one_lt_two hk)
  have hD : (rounded (E - C) 1).natAbs ≤ 2 ^ k := natAbs_rounded_le one_pos (by rwa [mul_one])
  have hP : (rounded (rounded (E - C) 1 * i) 1).natAbs ≤ 2 ^ (k + 16) := by
    refine natAbs_rounded_le one_pos ?_
    rw [mul_one, Int.natAbs_mul, Int.natAbs_natCast, pow_add]
    exact Nat.mul_le_mul hD (by omega)
  have hQ : (rampOffset (E - C) i n).natAbs ≤ 2 ^ (k + 16) :=
    natAbs_rounded_le (by omega) (hP.trans (Nat.le_mul_of_pos_right _ (by omega)))
  by_cases hlast : i = n
  · rw [smoothedValue, smoothedInt, if_pos hlast, if_pos hlast]
    exact he
  · rw [smoothedInt, if_neg hlast] at hbound ⊢
    rw [smoothedValue, if_neg hlast]
    have hsub := he.sub hc (hlt (hD.trans (pow_le_pow_right₀ one_le_two (Nat.le_add_right k 16))))
    have hmul := hsub.mul_natCast (F64.holds_ofNat (by omega)) rfl (hlt hP)
    have hdiv := hmul.div_natCast (F64.holds_ofNat (by omega)) (by omega) rfl (hlt hQ)
    exact hc.add hdiv (hbound.trans_lt (max_lt hc.natAbs_lt he.natAbs_lt))

/-- A Num within 20000 of 0, as REFCFG's widest parameter range is (10_state.md R27), is finite and not near overflow. -/
theorem holds_of_abs_le {x : F64} (h : x.abs.le (F64.ofNat 20000) = true) :
    ∃ v : Int, x.Holds v ∧ v.natAbs < 2 ^ 1127 := by
  obtain ⟨-, -, hle⟩ := F64.le_iff.mp h
  obtain ⟨-, hbound⟩ := F64.holds_ofNat (n := 20000) (by decide)
  rw [F64.value_abs, hbound, Int.ofNat_le] at hle
  have hlt : x.mag < 2 ^ 1127 := hle.trans_lt (mul_two_pow_lt (by decide) (by decide))
  have hfin := F64.isFinite_iff_mag_lt.mpr (hlt.trans (pow_lt_pow_right₀ one_lt_two (by decide)))
  exact ⟨x.value, F64.holds_value hfin, by rwa [F64.value_eq_signed, natAbs_signed]⟩

end Sys2Proof.Machine

/-- Settles O28: up or down, on the values of the ends. -/
theorem smootherIsMonotonic : Obligations.SmootherIsMonotonic := by
  unfold Obligations.SmootherIsMonotonic
  intro c e i n hcabs heabs hpos hi hn
  obtain ⟨C, hc, hCbound⟩ := holds_of_abs_le hcabs
  obtain ⟨E, he, hEbound⟩ := holds_of_abs_le heabs
  have hdiff : (E - C).natAbs ≤ 2 ^ (1127 + 1) := by
    rw [pow_succ]
    omega
  have hv := smoothedValue_holds hc he (by decide) hdiff hpos hi hn
  have hnext (hlt : i < n) := smoothedValue_holds hc he (by decide) hdiff (Nat.le_add_left 1 i) hlt hn
  refine ⟨fun hce => ?_, fun hec => ?_⟩
  · have hle := (hc.le_iff he).mp hce
    obtain ⟨hlow, hhigh⟩ := smoothedInt_between_up hc.rounded_eq he.rounded_eq hi hn hle
    exact ⟨(hc.le_iff hv).mpr hlow, (hv.le_iff he).mpr hhigh,
      fun hlt => (hv.le_iff (hnext hlt)).mpr (smoothedInt_mono he.rounded_eq hle hn hlt)⟩
  · have hle := (he.le_iff hc).mp hec
    obtain ⟨hlow, hhigh⟩ := smoothedInt_between_down hc.rounded_eq he.rounded_eq hi hn hle
    exact ⟨(he.le_iff hv).mpr hlow, (hv.le_iff hc).mpr hhigh,
      fun hlt => ((hnext hlt).le_iff hv).mpr (smoothedInt_anti he.rounded_eq hn hle hlt)⟩

/-- Settles O26: between equal ends the value lies between them. -/
theorem smootherHoldsAConstant : Obligations.SmootherHoldsAConstant := by
  unfold Obligations.SmootherHoldsAConstant
  intro c i n hfin hpos hi hn
  have hc := F64.holds_value hfin
  have hdiff : (c.value - c.value).natAbs ≤ 2 ^ 0 := by simp
  have hbetween := smoothedInt_between_up hc.rounded_eq hc.rounded_eq hi hn le_rfl
  rw [(smoothedValue_holds hc hc (by decide) hdiff hpos hi hn).eq_iff hc]
  omega

/-- Refutes O27: between 1000 and the next binary64 number there is no third, and the first value of a block of 2, half
a last place above 1000, is rounded to the even end, 1000 itself. -/
theorem not_smootherPropertiesAsWritten : ¬ Obligations.SmootherPropertiesAsWritten := by
  unfold Obligations.SmootherPropertiesAsWritten
  intro h
  obtain ⟨-, hstrict, -⟩ := h .cutoff ⟨0x408F400000000000#64⟩ ⟨0x408F400000000001#64⟩ 2
    ⟨by decide +kernel, by decide +kernel⟩ ⟨by decide +kernel, by decide +kernel⟩ (by decide) (by decide)
  obtain ⟨hfirst, -⟩ := hstrict (by decide) (by decide +kernel)
  have hstart : smoothedValue ⟨0x408F400000000000#64⟩ ⟨0x408F400000000001#64⟩ 1 2 = ⟨0x408F400000000000#64⟩ := by
    decide +kernel
  simp only [hstart] at hfirst
  exact absurd hfirst (by decide +kernel)

/-- Settles O25: a parameter of `P.v` is that parameter's smoothed value, by its two cases. -/
theorem smootherIsLinear : Obligations.SmootherIsLinear := by
  unfold Obligations.SmootherIsLinear
  intro s j
  rw [smoothed, ParamSet.get_ofFn, tickIndex]
  exact ⟨fun hlast => if_pos hlast, fun hinner => if_neg hinner.ne⟩

/-- Settles O29, by evaluating the two blocks. -/
theorem smootherWorkedExample : Obligations.SmootherWorkedExample := by
  unfold Obligations.SmootherWorkedExample
  exact ⟨by decide +kernel, by decide +kernel⟩

end

section
/-! PROOFS. A block of TICKs (40_control.md R119, R121, R126): what one TICK does to the block sequencer, then any number of
them by induction. -/

open Sys2Proof Sys2Proof.Machine

namespace Sys2Proof.Machine

/-- The block sequencer of `t` after `k` TICKs from `s`: the block is open and has counted them, or they were its last ones
and it is closed and committed. -/
structure BlockProgress (k : Nat) (s t : State) : Prop where
  responded : t.responses.length = s.responses.length + k
  target : t.pE = s.pE
  inner : s.ticksDone.toNat + k < s.blockLen.toNat →
    t.inBlock = true ∧ t.ticksDone.toNat = s.ticksDone.toNat + k ∧ t.blockLen = s.blockLen ∧ t.pC = s.pC
  last : s.ticksDone.toNat + k = s.blockLen.toNat →
    t.inBlock = false ∧ t.ticksDone = 0 ∧ t.blockLen = 0 ∧ t.pC = s.pE

theorem runCommands_cons {i : Instr} {is : List Instr} {s t : State} (h : exec i s = .next t) :
    runCommands (i :: is) s = runCommands is t := by
  simp only [runCommands, h]

/-- TICKs after an inner one go on from where it left the block. -/
theorem BlockProgress.trans {k : Nat} {s t u : State} (hfirst : BlockProgress 1 s t) (hrest : BlockProgress k t u)
    (hinner : s.ticksDone.toNat + 1 < s.blockLen.toNat) : BlockProgress (k + 1) s u := by
  obtain ⟨-, hcount, hlen, hC⟩ := hfirst.inner hinner
  refine ⟨?_, hrest.target.trans hfirst.target, fun h => ?_, fun h => ?_⟩
  · have h1 := hfirst.responded
    have h2 := hrest.responded
    omega
  · obtain ⟨hopen', hcount', hlen', hC'⟩ := hrest.inner (by rw [hcount, hlen]; omega)
    exact ⟨hopen', by omega, hlen'.trans hlen, hC'.trans hC⟩
  · obtain ⟨hclosed, hzero, hlen', hC'⟩ := hrest.last (by rw [hcount, hlen]; omega)
    exact ⟨hclosed, hzero, hlen', hC'.trans hfirst.target⟩

section inBlock

variable {s : State} (hopen : s.inBlock = true)
include hopen

theorem blockProgress_zero (hcount : s.ticksDone.toNat < s.blockLen.toNat) : BlockProgress 0 s s where
  responded := rfl
  target := rfl
  inner _ := ⟨hopen, rfl, rfl, rfl⟩
  last hlast := absurd hlast hcount.ne

/-- A TICK of an open block completes on every data word; what it renders leaves the block sequencer alone. -/
theorem exec_tick_of_inBlock (d : DataWord) : ∃ t, exec (.tick d) s = .next t ∧ BlockProgress 1 s t := by
  obtain ⟨r, hr⟩ : ∃ r, r = render (smoothed s) (inputSample (F64.fromBits d)) (noteInput (F64.fromBits d) s) :=
    ⟨_, rfl⟩
  have hexec : exec (.tick d) s = .next (respond r.1.toBits (blockAdvance r.2)) := by
    rw [hr]
    exact if_neg (by rw [hopen]; decide)
  have hcount : r.2.ticksDone = s.ticksDone := by rw [hr, render_ticksDone, noteInput_ticksDone]
  have hlen : r.2.blockLen = s.blockLen := by rw [hr, render_blockLen, noteInput_blockLen]
  have hE : r.2.pE = s.pE := by rw [hr, render_pE, noteInput_pE]
  refine ⟨_, hexec, ?_, ?_, fun hinner => ?_, fun hlast => ?_⟩
  · rw [respond_responses, blockAdvance_responses, hr, render_responses, noteInput_responses, List.length_append]
    rfl
  · rw [respond_pE, blockAdvance_pE, hE]
  · rw [blockAdvance_inner (by rw [hcount, hlen]; omega)]
    refine ⟨?_, ?_, hlen, ?_⟩
    · rw [respond_inBlock, hr, render_inBlock, noteInput_inBlock, hopen]
    · have := s.blockLen.isLt
      rw [respond_ticksDone, hcount]
      bv_omega
    · rw [respond_pC, hr, render_pC, noteInput_pC]
  · rw [blockAdvance_last (by rw [hcount, hlen]; omega)]
    exact ⟨rfl, rfl, rfl, hE⟩

end inBlock

/-- TICKs that do not outnumber those the block still lacks complete, whatever their inputs. -/
theorem runCommands_ticks (ds : List DataWord) {s : State} (hopen : s.inBlock = true)
    (hcount : s.ticksDone.toNat < s.blockLen.toNat) (hfit : s.ticksDone.toNat + ds.length ≤ s.blockLen.toNat) :
    ∃ t, runCommands (ds.map Instr.tick) s = some t ∧ BlockProgress ds.length s t := by
  induction ds generalizing s with
  | nil => exact ⟨s, rfl, blockProgress_zero hopen hcount⟩
  | cons d ds ih =>
    rw [List.length_cons] at hfit
    obtain ⟨t, hexec, ht⟩ := exec_tick_of_inBlock hopen d
    rw [List.map_cons, runCommands_cons hexec]
    by_cases hinner : s.ticksDone.toNat + 1 < s.blockLen.toNat
    · obtain ⟨hopen', hcount', hlen', -⟩ := ht.inner hinner
      obtain ⟨u, hrun, hu⟩ := ih hopen' (by rw [hcount', hlen']; omega) (by rw [hcount', hlen']; omega)
      exact ⟨u, hrun, ht.trans hu hinner⟩
    · obtain rfl : ds = [] := List.eq_nil_of_length_eq_zero (by omega)
      exact ⟨t, rfl, ht⟩

end Sys2Proof.Machine

/-- Settles O30: no TICK is done when the block is opened, so the count is the number of TICKs. -/
theorem blockClosesAfterItsTicks : Obligations.BlockClosesAfterItsTicks := by
  unfold Obligations.BlockClosesAfterItsTicks
  intro s ds hopen hzero hpos hfit
  have hcount : s.ticksDone.toNat = 0 := by rw [hzero]; rfl
  obtain ⟨t, hrun, ht⟩ := runCommands_ticks ds hopen (by omega) (by omega)
  refine ⟨t, hrun, ht.responded, ht.target, fun hinner => ?_, fun hlast => ht.last (by omega)⟩
  obtain ⟨hopen', hcount', hlen, hC⟩ := ht.inner (by omega)
  exact ⟨hopen', by omega, hlen, hC⟩

end

section
/-! PROOFS. The note commands (41_note.md R150 to R166): the check they share, each path of a command's pseudocode once, and
what no path writes. -/

open Sys2Proof Sys2Proof.Machine

namespace Sys2Proof

/-- The note commands, by the opcodes 0x5 to 0x8 of 30_encoding.md R85. -/
theorem eq_of_noteOpcode {i : Instr} (hi : i.opcode ∈ [0x5, 0x6, 0x7, 0x8]) :
    (∃ note vel, i = .trigger note vel) ∨ (∃ note, i = .slide note) ∨ i = .release ∨ i = .allOff := by
  cases i with
  | trigger note vel => exact .inl ⟨note, vel, rfl⟩
  | slide note => exact .inr (.inl ⟨note, rfl⟩)
  | release => exact .inr (.inr (.inl rfl))
  | allOff => exact .inr (.inr (.inr rfl))
  | _ => simp [Instr.opcode] at hi

end Sys2Proof

namespace Sys2Proof.Machine

variable {s t : State}

/-! ## The sequencing check (R150) -/

theorem blockStarted_iff : blockStarted s = true ↔ s.inBlock = true ∧ s.ticksDone ≠ 0 := by
  rw [blockStarted, Bool.and_eq_true, decide_eq_true_iff]

theorem blockStarted_eq_false_iff : blockStarted s = false ↔ s.inBlock = false ∨ s.ticksDone = 0 := by
  rw [blockStarted, Bool.and_eq_false_iff, decide_eq_false_iff_not, not_not]

theorem exec_note_rejected {i : Instr} (hi : i.opcode ∈ [0x5, 0x6, 0x7, 0x8]) (hopen : s.inBlock = true)
    (hticks : s.ticksDone ≠ 0) : exec i s = .next (setErr .seq s) := by
  have hstarted : blockStarted s = true := blockStarted_iff.mpr ⟨hopen, hticks⟩
  obtain ⟨note, vel, rfl⟩ | ⟨note, rfl⟩ | rfl | rfl := eq_of_noteOpcode hi <;> exact if_pos hstarted

/-! ## The accepted commands (R152, R153, R156, R159, R162) -/

section accepted

variable (hready : s.inBlock = false ∨ s.ticksDone = 0)
include hready

theorem not_blockStarted : ¬ blockStarted s = true := Bool.eq_false_iff.mp (blockStarted_eq_false_iff.mpr hready)

theorem exec_trigger_zero (note : Nat) : exec (.trigger note 0) s = .next (releaseAction s) :=
  if_neg (not_blockStarted hready)

theorem exec_trigger_sounds (note : Nat) {vel : Nat} (hvel : vel ≠ 0) :
    exec (.trigger note vel) s = .next (triggerAction (BitVec.ofNat 7 note) vel s) :=
  (if_neg (not_blockStarted hready)).trans (if_neg hvel)

theorem exec_slide_retunes (note : Nat) :
    exec (.slide note) s =
      .next
        { s with
          note := BitVec.ofNat 7 note
          noteState := if s.noteState = .silent then .silent else .sliding } :=
  if_neg (not_blockStarted hready)

theorem exec_release_releases : exec .release s = .next (releaseAction s) := if_neg (not_blockStarted hready)

theorem exec_allOff_releases (hmode : s.sta.allOffMode = .release) : exec .allOff s = .next (releaseAction s) := by
  simp only [exec, execAllOff, if_neg (not_blockStarted hready), hmode]

theorem exec_allOff_clears (hmode : s.sta.allOffMode = .clear) : exec .allOff s = .next (clearAction s) := by
  simp only [exec, execAllOff, if_neg (not_blockStarted hready), hmode]

end accepted

/-! ## What the actions write -/

theorem toNat_note {note : Nat} (hnote : note < 128) : (BitVec.ofNat 7 note).toNat = note :=
  BitVec.toNat_ofNat note 7 ▸ Nat.mod_eq_of_lt hnote

/-- 42_tick_osc.md R184 on the operand of a TRIGGER. -/
theorem pitchTarget_ofNat {note : Nat} (hnote : note < 128) (b : F64) :
    pitchTarget s (BitVec.ofNat 7 note) b =
      s.cfg.tuning.mul (pow2F s.sta ((((F64.ofNat note).add b).sub s.sta.refNote).div (F64.ofNat 12))) := by
  rw [pitchTarget, toNat_note hnote]

theorem releaseAction_of_sounding (hamp : s.aStage = .attack ∨ s.aStage = .decay ∨ s.aStage = .sustain) :
    releaseAction s = { s with noteState := .silent, aStage := .release } := by
  obtain hamp | hamp | hamp := hamp <;> simp only [releaseAction, hamp]

theorem releaseAction_of_ampFading (hamp : AmpFading s.aStage) : releaseAction s = { s with noteState := .silent } := by
  obtain hamp | hamp := hamp <;> simp only [releaseAction, hamp]

/-- Everything a note command may write, accepted or rejected (R164). The responses stand here because `Effect` leaves open
whether a rejection responds. -/
theorem Effect.eq_of_noteOpcode {i : Instr} (h : Effect s i t) (hi : i.opcode ∈ [0x5, 0x6, 0x7, 0x8]) :
    t =
      { s with
        responses := t.responses
        err := t.err
        note := t.note
        accent := t.accent
        noteState := t.noteState
        idle := t.idle
        slideF := t.slideF
        mStage := t.mStage
        mLevel := t.mLevel
        pn := t.pn
        pa := t.pa
        aStage := t.aStage
        aLevel := t.aLevel } := by
  cases h with
  | rejected e responds => rw [raise_eq]
  | responded v => rfl
  | triggered => rfl
  | slid => rfl
  | released => rfl
  | cleared => rfl
  | _ => simp [Instr.opcode] at hi

/-! ## A TICK leaves the note alone (R151) -/

theorem exec_tick_closed (hclosed : s.inBlock = false) (d : DataWord) : exec (.tick d) s = .next (raise .seq true s) :=
  if_pos (by rw [hclosed]; rfl)

theorem exec_tick_open (hopen : s.inBlock = true) (d : DataWord) :
    exec (.tick d) s =
      .next (respond (render (smoothed s) (inputSample (F64.fromBits d)) (noteInput (F64.fromBits d) s)).1.toBits
        (blockAdvance (render (smoothed s) (inputSample (F64.fromBits d)) (noteInput (F64.fromBits d) s)).2)) :=
  if_neg (by rw [hopen]; decide)

@[simp] theorem raise_noteState (e : ErrCode) (responds : Bool) (s : State) :
    (raise e responds s).noteState = s.noteState := by
  rw [raise_eq]

theorem noteState_of_exec_tick {d : DataWord} (h : exec (.tick d) s = .next t) : t.noteState = s.noteState := by
  cases hblock : s.inBlock with
  | false =>
    rw [exec_tick_closed hblock] at h
    cases h
    exact raise_noteState .seq true s
  | true =>
    rw [exec_tick_open hblock] at h
    cases h
    rw [respond_noteState, blockAdvance_noteState, render_noteState, noteInput_noteState]

end Sys2Proof.Machine

/-- Settles O20: each accepted command by the path it takes, and a TICK by its frame. -/
theorem noteStateMachine : Obligations.NoteStateMachine := by
  unfold Obligations.NoteStateMachine
  refine fun s t => ⟨fun d h => noteState_of_exec_tick h, fun hready => ⟨fun note vel h => ?_, fun note h => ?_,
    fun h => ?_, fun h => ?_⟩⟩
  · by_cases hvel : vel = 0
    · subst hvel
      rw [exec_trigger_zero hready] at h
      cases h
      rfl
    · rw [exec_trigger_sounds hready note hvel] at h
      cases h
      rw [if_neg hvel, triggerAction_noteState]
  · rw [exec_slide_retunes hready] at h
    cases h
    cases s.noteState <;> rfl
  · rw [exec_release_releases hready] at h
    cases h
    exact releaseAction_noteState s
  · cases hmode : s.sta.allOffMode with
    | release =>
      rw [exec_allOff_releases hready hmode] at h
      cases h
      exact releaseAction_noteState s
    | clear =>
      rw [exec_allOff_clears hready hmode] at h
      cases h
      exact clearAction_noteState s

/-- Settles O16: the four commands share the check, and no accepted path writes an error bit. -/
theorem noteCommandsOnlyBeforeTheFirstTick : Obligations.NoteCommandsOnlyBeforeTheFirstTick := by
  unfold Obligations.NoteCommandsOnlyBeforeTheFirstTick
  refine fun i s hi => ⟨fun hopen hticks => exec_note_rejected hi hopen hticks, fun hready => ?_⟩
  obtain ⟨note, vel, rfl⟩ | ⟨note, rfl⟩ | rfl | rfl := eq_of_noteOpcode hi
  · by_cases hvel : vel = 0
    · subst hvel
      exact ⟨_, exec_trigger_zero hready note, releaseAction_err s⟩
    · exact ⟨_, exec_trigger_sounds hready note hvel, triggerAction_err _ vel s⟩
  · exact ⟨_, exec_slide_retunes hready note, rfl⟩
  · exact ⟨_, exec_release_releases hready, releaseAction_err s⟩
  · cases hmode : s.sta.allOffMode with
    | release => exact ⟨_, exec_allOff_releases hready hmode, releaseAction_err s⟩
    | clear => exact ⟨_, exec_allOff_clears hready hmode, clearAction_err s⟩

/-- Settles O17: a note of 7 bits is stored as it is, and SLIDE_F starts at its pitch target. -/
theorem triggerStartsANote : Obligations.TriggerStartsANote := by
  unfold Obligations.TriggerStartsANote
  intro note vel s hnote _
  refine ⟨exec_note_rejected (by simp [Instr.opcode]), fun hready hzero => ?_, fun hready hvel =>
    ⟨BitVec.ofNat 7 note, toNat_note hnote, ?_⟩⟩
  · subst hzero
    rw [exec_trigger_zero hready, exec_release_releases hready]
  · rw [exec_trigger_sounds hready note hvel, triggerAction, pitchTarget_ofNat hnote]

/-- Settles O18: the one accepted path, by whether the note is Silent. -/
theorem slideRetunesOnly : Obligations.SlideRetunesOnly := by
  unfold Obligations.SlideRetunesOnly
  intro note s hnote
  refine ⟨exec_note_rejected (by simp [Instr.opcode]), fun hready => ⟨BitVec.ofNat 7 note, toNat_note hnote,
    fun hsilent => ?_, fun hsounding => ?_⟩⟩
  · rw [exec_slide_retunes hready, if_pos hsilent, ← hsilent]
  · rw [exec_slide_retunes hready, if_neg hsounding]

/-- Settles O19: RELEASE by the stage of the amplitude envelope, ALL_OFF by its mode. -/
theorem releaseAndAllOff : Obligations.ReleaseAndAllOff := by
  unfold Obligations.ReleaseAndAllOff
  refine ⟨fun s hopen hticks => ⟨exec_note_rejected (by decide) hopen hticks, exec_note_rejected (by decide) hopen hticks⟩,
    fun s hready => ⟨fun hamp => ?_, fun hamp => ?_, fun hmode => ?_, fun hmode => exec_allOff_clears hready hmode⟩⟩
  · rw [exec_release_releases hready, releaseAction_of_sounding hamp]
  · rw [exec_release_releases hready, releaseAction_of_ampFading hamp]
  · rw [exec_allOff_releases hready hmode, exec_release_releases hready]

/-- Settles O21: none of these registers is among those a path of a note command may write. -/
theorem noteCommandsLeaveTheRest : Obligations.NoteCommandsLeaveTheRest := by
  unfold Obligations.NoteCommandsLeaveTheRest
  intro i s t hi h
  rw [(effect_of_exec h).eq_of_noteOpcode hi]
  exact ⟨rfl, rfl, rfl, rfl, rfl, rfl, rfl, rfl, rfl, rfl, rfl, rfl, rfl, rfl, rfl, rfl, rfl, rfl⟩

end

section
/-! PROOFS. The phase of the oscillator (42_tick_osc.md R187, R188), on the values of the Nums: the rounded sum of a phase
below 1 and an increment of at most 0.5, and the wrap, which subtracts exactly. -/

open Sys2Proof Sys2Proof.Machine

namespace Sys2Proof

/-! ## Values in units of `2^-1074` -/

theorem F64.holds_zero : F64.zero.Holds 0 := ⟨by decide, by decide⟩

theorem F64.holds_half : (F64.one.div (F64.ofNat 2)).Holds (2 ^ 1073) := ⟨by decide +kernel, by decide +kernel⟩

theorem F64.holds_one : F64.one.Holds (2 * 2 ^ 1073) := ⟨by decide +kernel, by decide +kernel⟩

theorem F64.holds_threeHalves : ((F64.ofNat 3).div (F64.ofNat 2)).Holds (3 * 2 ^ 1073) :=
  ⟨by decide +kernel, by decide +kernel⟩

theorem F64.natAbs_value (x : F64) : x.value.natAbs = x.mag := by rw [F64.value_eq_signed, natAbs_signed]

/-! ## Comparisons -/

theorem F64.Holds.lt_iff {x y : F64} {v w : Int} (hx : x.Holds v) (hy : y.Holds w) : x.lt y = true ↔ v < w := by
  obtain ⟨hfx, rfl⟩ := hx
  obtain ⟨hfy, rfl⟩ := hy
  simp [F64.lt_iff, F64.isNaN_of_isFinite, hfx, hfy]

theorem F64.le_of_lt {x y : F64} (h : x.lt y = true) : x.le y = true := by
  obtain ⟨hx, hy, hlt⟩ := F64.lt_iff.mp h
  exact F64.le_iff.mpr ⟨hx, hy, hlt.le⟩

/-- A Num between two finite ones is finite. -/
theorem F64.holds_of_between {x lo hi : F64} {a b : Int} (hlo : lo.Holds a) (hhi : hi.Holds b)
    (hlox : lo.le x = true) (hxhi : x.le hi = true) : x.Holds x.value := by
  have ha := hlo.natAbs_lt
  have hb := hhi.natAbs_lt
  obtain ⟨-, -, hle⟩ := F64.le_iff.mp hlox
  obtain ⟨-, -, hge⟩ := F64.le_iff.mp hxhi
  obtain ⟨-, rfl⟩ := hlo
  obtain ⟨-, rfl⟩ := hhi
  have hbelow : x.value.natAbs < 2 ^ 2098 := by omega
  exact F64.holds_value (F64.isFinite_iff_mag_lt.mpr (x.natAbs_value ▸ hbelow))

/-! ## An exact subtraction -/

/-- From a binary64 value in a binade, ends included, the binade's first value is subtracted exactly: both are whole
numbers of its last place, and the difference is few enough of them. -/
theorem F64.Holds.rounded_sub_two_pow {x : F64} {v : Int} (hx : x.Holds v) {e : Nat} (hlow : 2 ^ 52 * 2 ^ e ≤ v)
    (hhigh : v ≤ 2 ^ 53 * 2 ^ e) : rounded (v - 2 ^ 52 * 2 ^ e) 1 = v - 2 ^ 52 * 2 ^ e := by
  obtain ⟨-, rfl⟩ := hx
  have hpos : (0 : Int) < 2 ^ e := pow_pos two_pos e
  have hmag : (x.mag : Int) = x.value := by
    have habs := x.natAbs_value
    omega
  rw [← hmag] at hlow hhigh ⊢
  obtain ⟨q, hq⟩ := F64.two_pow_dvd_mag (x := x) (e := e) (by exact_mod_cast hlow)
  rw [mul_comm] at hq
  rw [hq] at hlow hhigh ⊢
  rw [Nat.cast_mul, Nat.cast_pow, Nat.cast_ofNat] at hlow hhigh ⊢
  have hq52 : (2 ^ 52 : Int) ≤ q := le_of_mul_le_mul_right hlow hpos
  have hq53 : (q : Int) ≤ 2 ^ 53 := le_of_mul_le_mul_right hhigh hpos
  have hdiff : (q : Int) * 2 ^ e - 2 ^ 52 * 2 ^ e = ((q - 2 ^ 52) * 2 ^ e : Nat) := by
    rw [Nat.cast_mul, Nat.cast_sub (by exact_mod_cast hq52)]
    push_cast
    ring
  rw [hdiff, rounded_natCast, roundedMag_mul_two_pow (by omega)]

end Sys2Proof

namespace Sys2Proof.Machine

/-! ## One advance of the phase -/

section advancePhase

variable {phase inc : F64} {P I : Int}

theorem advancePhase_of_le (h : F64.one.le (phase.add inc) = true) :
    advancePhase phase inc = (phase.add inc).sub F64.one := by
  simp only [advancePhase, if_pos h]

theorem advancePhase_of_not_le (h : ¬ F64.one.le (phase.add inc) = true) :
    advancePhase phase inc = phase.add inc := by
  simp only [advancePhase, if_neg h]

section bounds

variable (hP0 : 0 ≤ P) (hI0 : 0 ≤ I) (hP1 : P < 2 * 2 ^ 1073) (hI1 : I ≤ 2 ^ 1073)
include hP0 hI0 hP1 hI1

/-- Rounding does not pass 1.5, a binary64 value above the exact sum. -/
theorem rounded_phaseSum_bounds : 0 ≤ rounded (P + I) 1 ∧ rounded (P + I) 1 ≤ 3 * 2 ^ 1073 := by
  refine ⟨rounded_nonneg (by omega) 1, ?_⟩
  calc rounded (P + I) 1
      ≤ rounded (3 * 2 ^ 1073) 1 := rounded_mono (by omega) 1
    _ = 3 * 2 ^ 1073 := F64.holds_threeHalves.rounded_eq

variable (hphase : phase.Holds P) (hinc : inc.Holds I)
include hphase hinc

theorem holds_phaseSum : (phase.add inc).Holds (rounded (P + I) 1) := by
  obtain ⟨hlow, hhigh⟩ := rounded_phaseSum_bounds hP0 hI0 hP1 hI1
  refine hphase.add hinc ?_
  have := F64.holds_threeHalves.natAbs_lt
  omega

/-- A sum of at least 1 lies in the binade that 1 begins, so that the wrap is exact (R188). -/
theorem advancePhase_wraps (hwrap : F64.one.le (phase.add inc) = true) :
    (advancePhase phase inc).Holds (rounded (P + I) 1 - 2 * 2 ^ 1073) := by
  have hsum := holds_phaseSum hP0 hI0 hP1 hI1 hphase hinc
  have hlow := (F64.holds_one.le_iff hsum).mp hwrap
  obtain ⟨-, hhigh⟩ := rounded_phaseSum_bounds hP0 hI0 hP1 hI1
  have hone : (2 * 2 ^ 1073 : Int) = 2 ^ 52 * 2 ^ 1022 := by rw [← pow_succ', ← pow_add]
  have htwo : (2 ^ 53 * 2 ^ 1022 : Int) = 2 * (2 * 2 ^ 1073) := by rw [← pow_succ', ← pow_succ', ← pow_add]
  have hexact : rounded (rounded (P + I) 1 - 2 * 2 ^ 1073) 1 = rounded (P + I) 1 - 2 * 2 ^ 1073 := by
    rw [hone] at hlow ⊢
    exact hsum.rounded_sub_two_pow hlow (by omega)
  have hsub := hsum.sub F64.holds_one
  rw [hexact] at hsub
  rw [advancePhase_of_le hwrap]
  refine hsub ?_
  have := hsum.natAbs_lt
  omega

/-- Wrapped or not, the phase stays in [0, 1) (R188). -/
theorem exists_holds_advancePhase : ∃ v : Int, (advancePhase phase inc).Holds v ∧ 0 ≤ v ∧ v < 2 * 2 ^ 1073 := by
  have hsum := holds_phaseSum hP0 hI0 hP1 hI1 hphase hinc
  obtain ⟨hlow, hhigh⟩ := rounded_phaseSum_bounds hP0 hI0 hP1 hI1
  by_cases hwrap : F64.one.le (phase.add inc) = true
  · have hone := (F64.holds_one.le_iff hsum).mp hwrap
    exact ⟨_, advancePhase_wraps hP0 hI0 hP1 hI1 hphase hinc hwrap, by omega, by omega⟩
  · have hone := mt (F64.holds_one.le_iff hsum).mpr hwrap
    rw [advancePhase_of_not_le hwrap]
    exact ⟨_, hsum, hlow, not_le.mp hone⟩

end bounds

end advancePhase

end Sys2Proof.Machine

/-- Settles O34, on the values: the sum is rounded to at most 1.5, and a sum of at least 1 loses 1 exactly. -/
theorem phaseStaysInTheUnitInterval : Obligations.PhaseStaysInTheUnitInterval := by
  unfold Obligations.PhaseStaysInTheUnitInterval
  intro phase inc hphase0 hphase1 hinc0 hinc1
  have hphase := F64.holds_of_between F64.holds_zero F64.holds_one hphase0 (F64.le_of_lt hphase1)
  have hinc := F64.holds_of_between F64.holds_zero F64.holds_half hinc0 hinc1
  have hP0 := (F64.holds_zero.le_iff hphase).mp hphase0
  have hP1 := (hphase.lt_iff F64.holds_one).mp hphase1
  have hI0 := (F64.holds_zero.le_iff hinc).mp hinc0
  have hI1 := (hinc.le_iff F64.holds_half).mp hinc1
  have hsum := holds_phaseSum hP0 hI0 hP1 hI1 hphase hinc
  have hwraps := advancePhase_wraps hP0 hI0 hP1 hI1 hphase hinc
  obtain ⟨-, hsum1⟩ := rounded_phaseSum_bounds hP0 hI0 hP1 hI1
  obtain ⟨v, hnew, hlow, hhigh⟩ := exists_holds_advancePhase hP0 hI0 hP1 hI1 hphase hinc
  refine ⟨(F64.holds_zero.le_iff hnew).mpr hlow, (hnew.lt_iff F64.holds_one).mpr hhigh,
    (hsum.le_iff F64.holds_threeHalves).mpr hsum1, fun hwrap => ⟨?_, ?_⟩, fun hone => ?_⟩
  · obtain ⟨-, hvalue⟩ := hwraps hwrap
    obtain ⟨-, hsumValue⟩ := hsum
    obtain ⟨-, honeValue⟩ := F64.holds_one
    rw [hvalue, hsumValue, honeValue]
  · exact ((hwraps hwrap).le_iff F64.holds_half).mpr (by omega)
  · rw [advancePhase_of_le (by rw [hone]; decide +kernel), hone]
    decide +kernel

/-- Refutes O33: the exact sum of 1 - 2^-53 and 0.5 is a tie, which is rounded to the even end, 1.5 itself. -/
theorem not_phaseInvariantAsWritten : ¬ Obligations.PhaseInvariantAsWritten := by
  unfold Obligations.PhaseInvariantAsWritten
  intro h
  obtain ⟨-, -, hstrict, -⟩ := h ⟨0x3FEFFFFFFFFFFFFF#64⟩ ⟨0x3FE0000000000000#64⟩ (by decide +kernel) (by decide +kernel)
    (by decide +kernel) (by decide +kernel)
  have hsum : F64.add ⟨0x3FEFFFFFFFFFFFFF#64⟩ ⟨0x3FE0000000000000#64⟩ = (F64.ofNat 3).div (F64.ofNat 2) := by
    decide +kernel
  rw [hsum] at hstrict
  exact absurd ((F64.holds_threeHalves.lt_iff F64.holds_threeHalves).mp hstrict) (lt_irrefl _)

end

section
/-! PROOFS. The pitch step and the pass of the oscillator (42_tick_osc.md R184 to R192), and the TICK they are steps of
(42_tick_osc.md R180, R181, R183). -/

open Sys2Proof Sys2Proof.Machine

namespace Sys2Proof.Machine

/-! ## The pass of the oscillator (R187, R189, R192) -/

/-- A pass writes PHASE, and reads the two waveforms at the new one. -/
theorem oscPass_eq (v : ParamSet) (s : State) :
    oscPass v s =
      (oscSample s.sta v.wave (advancePhase s.phase s.inc) s.inc, { s with phase := advancePhase s.phase s.inc }) := by
  simp only [oscPass]

theorem waveA_reference {p : StaticParams} (h : p.waveA = .reference) (phase inc : F64) :
    waveA p phase inc = ((F64.ofNat 2).mul phase).sub F64.one := by
  simp only [waveA, h]

theorem waveB_reference {p : StaticParams} (h : p.waveB = .reference) (phase inc : F64) :
    waveB p phase inc = if phase.lt (F64.one.div (F64.ofNat 2)) then F64.one else F64.one.neg := by
  simp only [waveB, h]

/-! ## The sub-steps of a sounding TICK -/

theorem render_of_idle_eq_false {s : State} (hidle : s.idle = false) (v : ParamSet) (x : F64) :
    render v x s = soundTick v x s := if_neg (by rw [hidle]; decide)

theorem exec_tick_sounding {s : State} (hopen : s.inBlock = true) (hidle : s.idle = false) (d : DataWord) :
    exec (.tick d) s =
      .next (respond (soundTick (smoothed s) (inputSample (F64.fromBits d)) (noteInput (F64.fromBits d) s)).1.toBits
        (blockAdvance (soundTick (smoothed s) (inputSample (F64.fromBits d)) (noteInput (F64.fromBits d) s)).2)) := by
  rw [exec_tick_open hopen, render_of_idle_eq_false ((noteInput_idle _ s).trans hidle)]

section soundTick

variable (v : ParamSet) (x : F64) (s : State)

@[simp] theorem pitchStep_sta : (pitchStep v s).sta = s.sta := rfl

/-- The passes are as many as the configuration says: no earlier sub-step writes it. -/
theorem soundTick_passes_os :
    soundTick v x s =
      let env := envStep v (pitchStep v s)
      let run := passes x v s.sta.os F64.zero (morphSetup v env.1.1 env.2)
      let out := outputStage run.1 env.1.2 v run.2
      (out.1, idleCheck out.2) := by
  simp only [soundTick, morphSetup_sta, envStep_sta, pitchStep_sta]

theorem soundTick_fA_h : (soundTick v x s).2.fA.h = s.fA.h := by
  simp [soundTick, outputStage_eq, morphSetup, pitchStep]

theorem soundTick_fB_h : (soundTick v x s).2.fB.h = s.fB.h := by
  simp [soundTick, outputStage_eq, morphSetup, pitchStep]

end soundTick

end Sys2Proof.Machine

/-- Settles O24: the sub-steps by the TICK's meaning, what stays by the frames of its sounding part and of the block's
advance. -/
theorem soundingTickCompletes : Obligations.SoundingTickCompletes := by
  unfold Obligations.SoundingTickCompletes
  intro d s hopen hidle x v s0 env run out t
  have hs0 : noteInput (F64.fromBits d) s = s0 := rfl
  have hsta : s0.sta = s.sta := noteInput_sta _ s
  have hsound : soundTick v x s0 = (out.1, idleCheck out.2) := by rw [soundTick_passes_os, hsta]
  have hout : (soundTick v x s0).1 = out.1 := by rw [hsound]
  have ht : blockAdvance (soundTick v x s0).2 = t := by rw [hsound]
  have hexec : exec (.tick d) s =
      .next (respond (soundTick v x s0).1.toBits (blockAdvance (soundTick v x s0).2)) :=
    exec_tick_sounding hopen hidle d
  rw [hout, ht] at hexec
  have hresponses : t.responses = s.responses := by
    rw [← ht, blockAdvance_responses, soundTick_responses, ← hs0, noteInput_responses]
  refine ⟨by rw [hexec, respond, hresponses], ?_⟩
  simp [← ht, ← hs0, soundTick_fA_h, soundTick_fB_h]

/-- Settles O22: the rejection is the check that stands before the data word is read. -/
theorem tickWithoutABlockIsRejected : Obligations.TickWithoutABlockIsRejected := by
  unfold Obligations.TickWithoutABlockIsRejected
  intro d s hclosed
  rw [exec_tick_closed hclosed, raise_eq]
  rfl

/-- Settles O32: the slide's step, then the increment's on the state it leaves. -/
theorem pitchStepGlides : Obligations.PitchStepGlides := by
  unfold Obligations.PitchStepGlides
  intro v s target hold c f q
  have hslide : slideStep (pitchTarget s s.note v.bend) s = { s with slideF := f } := rfl
  rw [pitchStep, hslide]
  rfl

/-- Settles O35: the pass by its equation at the phase of R187, the shapes by the reference waveforms. -/
theorem oscillatorPass : Obligations.OscillatorPass := by
  unfold Obligations.OscillatorPass
  intro v s sum ph
  have hphase : advancePhase s.phase s.inc = ph := by unfold advancePhase; rfl
  refine ⟨?_, fun h => waveA_reference h ph s.inc, fun h => waveB_reference h ph s.inc⟩
  rw [oscPass_eq, hphase, oscSample]

end

section
/-! PROOFS. The envelopes (43_envelopes.md R210 to R229): each machine's equation in each stage and the registers it
reads, the normalizer in its cases, and the envelope step put together from them. -/

open Sys2Proof Sys2Proof.Machine

namespace Sys2Proof

theorem F64.one_le_one : F64.one.le F64.one = true := by decide +kernel

/-- The `max` with 1 leaves what is at least 1 as it is, and a NaN gives way to 1. -/
theorem F64.max_one (y : F64) : y.max F64.one = if F64.one.le y then y else F64.one := rfl

theorem F64.one_le_max_one (y : F64) : F64.one.le (y.max F64.one) = true := by
  rw [F64.max_one]
  split
  next hle => exact hle
  next => exact F64.one_le_one

end Sys2Proof

namespace Sys2Proof.Machine

/-! ## The main envelope (R213) -/

section mainEnvStep

variable {tauD : F64} {s t : State}

theorem mainEnvStep_ramp (h : s.mStage = .ramp) :
    mainEnvStep tauD s =
      { s with
        mLevel := rampTo1 s.sta.mainRampMs s.fs s.mLevel
        mStage := if F64.one.le (rampTo1 s.sta.mainRampMs s.fs s.mLevel) then .decay else .ramp } := by
  simp only [mainEnvStep, h]

theorem mainEnvStep_decay (h : s.mStage = .decay) :
    mainEnvStep tauD s =
      if (s.mLevel.mul (unitCoef s.sta (decayMul s.sta tauD s.fs))).le s.sta.envEps then
        { s with mLevel := F64.zero, mStage := .idle }
      else { s with mLevel := s.mLevel.mul (unitCoef s.sta (decayMul s.sta tauD s.fs)) } := by
  simp only [mainEnvStep, h]

theorem mainEnvStep_idle (h : s.mStage = .idle) : mainEnvStep tauD s = s := by
  simp only [mainEnvStep, h]

/-- The main envelope reads the static parameters, the rate and its own two registers. -/
theorem mainEnvStep_congr (hsta : t.sta = s.sta) (hfs : t.fs = s.fs) (hlevel : t.mLevel = s.mLevel)
    (hstage : t.mStage = s.mStage) :
    mainEnvStep tauD t =
      { t with mLevel := (mainEnvStep tauD s).mLevel, mStage := (mainEnvStep tauD s).mStage } := by
  cases h : s.mStage with
  | ramp => rw [mainEnvStep_ramp h, mainEnvStep_ramp (hstage.trans h), hsta, hfs, hlevel]
  | decay =>
    rw [mainEnvStep_decay h, mainEnvStep_decay (hstage.trans h), hsta, hfs, hlevel]
    split
    · rfl
    · rw [← hstage]
  | idle => rw [mainEnvStep_idle h, mainEnvStep_idle (hstage.trans h), ← hlevel, ← hstage]

end mainEnvStep

/-! ## The amplitude envelope (R221, R222) -/

section ampEnvStep

variable {s t : State}

/-- The level toward sustain that a TICK of DECAY comes to, before it is compared with ENV_EPS. -/
def ampDecayed (s : State) : F64 :=
  s.sta.ampSustain.add
    ((s.aLevel.sub s.sta.ampSustain).mul (unitCoef s.sta (decayMul s.sta s.sta.ampDecayMs s.fs)))

/-- The level toward 0 that a TICK of RELEASE comes to, before it is compared with ENV_EPS. -/
def ampReleased (s : State) : F64 := s.aLevel.mul (unitCoef s.sta (decayMul s.sta s.sta.ampReleaseMs s.fs))

theorem ampEnvStep_attack (h : s.aStage = .attack) :
    ampEnvStep s =
      { s with
        aLevel := rampTo1 s.sta.ampAttackMs s.fs s.aLevel
        aStage := if F64.one.le (rampTo1 s.sta.ampAttackMs s.fs s.aLevel) then .decay else .attack } := by
  simp only [ampEnvStep, h]

theorem ampEnvStep_decay (h : s.aStage = .decay) :
    ampEnvStep s =
      if ((ampDecayed s).sub s.sta.ampSustain).le s.sta.envEps then
        { s with aLevel := s.sta.ampSustain, aStage := .sustain }
      else { s with aLevel := ampDecayed s } := by
  simp only [ampEnvStep, h, ampDecayed]

theorem ampEnvStep_sustain (h : s.aStage = .sustain) : ampEnvStep s = { s with aLevel := s.sta.ampSustain } := by
  simp only [ampEnvStep, h]

theorem ampEnvStep_release (h : s.aStage = .release) :
    ampEnvStep s =
      if (ampReleased s).le s.sta.envEps then { s with aLevel := F64.zero, aStage := .idle }
      else { s with aLevel := ampReleased s } := by
  simp only [ampEnvStep, h, ampReleased]

theorem ampEnvStep_idle (h : s.aStage = .idle) : ampEnvStep s = s := by
  simp only [ampEnvStep, h]

/-- The amplitude envelope reads the static parameters, the rate and its own two registers. -/
theorem ampEnvStep_congr (hsta : t.sta = s.sta) (hfs : t.fs = s.fs) (hlevel : t.aLevel = s.aLevel)
    (hstage : t.aStage = s.aStage) :
    ampEnvStep t = { t with aLevel := (ampEnvStep s).aLevel, aStage := (ampEnvStep s).aStage } := by
  have hdecayed : ampDecayed t = ampDecayed s := by rw [ampDecayed, hsta, hfs, hlevel, ← ampDecayed]
  have hreleased : ampReleased t = ampReleased s := by rw [ampReleased, hsta, hfs, hlevel, ← ampReleased]
  cases h : s.aStage with
  | attack => rw [ampEnvStep_attack h, ampEnvStep_attack (hstage.trans h), hsta, hfs, hlevel]
  | decay =>
    rw [ampEnvStep_decay h, ampEnvStep_decay (hstage.trans h), hdecayed, hsta]
    split
    · rfl
    · rw [← hstage]
  | sustain => rw [ampEnvStep_sustain h, ampEnvStep_sustain (hstage.trans h), hsta, ← hstage]
  | release =>
    rw [ampEnvStep_release h, ampEnvStep_release (hstage.trans h), hreleased, hsta]
    split
    · rfl
    · rw [← hstage]
  | idle => rw [ampEnvStep_idle h, ampEnvStep_idle (hstage.trans h), ← hlevel, ← hstage]

end ampEnvStep

/-! ## The normalizer (R215) -/

/-- What R13's tolerance admits beside an exact result that is a unit in its last place above `x` is not below `x`. -/
theorem ExactResult.le_of_admits {e : ExactResult} {x y : F64} (hneg : e.neg = false) (hden : 0 < e.den) (hx : x.isNaN = false)
    (hfar : x.value * e.den + e.den * 2 ^ ulpExp e.num e.den ≤ e.num) (hy : e.admits y = true) : x.le y = true := by
  simp only [ExactResult.admits, hneg, Bool.and_eq_true, Bool.not_eq_true', decide_eq_true_eq] at hy
  obtain ⟨hnan, hnear⟩ := hy
  have hscaled : x.value * e.den ≤ y.value * e.den := by
    zify at hnear
    rw [if_neg Bool.false_ne_true] at hnear
    have hlow := neg_le_of_abs_le hnear
    omega
  exact F64.le_iff.mpr ⟨hx, hnan, le_of_mul_le_mul_right hscaled (by exact_mod_cast hden)⟩

theorem one_le_round_exactExp_one : F64.one.le (exactExp F64.one).round = true := by decide +kernel

/-- EXP(1) is at least 1, whichever EXP it is: e is far more than one unit in the last place above 1. -/
theorem one_le_expF_one (p : StaticParams) : F64.one.le (expF p F64.one) = true := by
  have hnan : ¬ F64.one.isNaN = true := by decide +kernel
  cases hexp : p.expFn with
  | reference =>
    rw [expF, hexp]
    simp only [refExp, if_neg hnan, one_le_round_exactExp_one]
  | free n =>
    rw [expF, hexp]
    simp only [if_neg hnan]
    obtain ⟨hadmits, hvalue⟩ | ⟨-, hvalue⟩ := withinUlp_cases (exactExp F64.one) (Config.freeExp n F64.one)
    · rw [hvalue]
      exact ExactResult.le_of_admits (by decide +kernel) (by decide +kernel) (by decide +kernel) (by decide +kernel) hadmits
    · rw [hvalue]
      exact one_le_round_exactExp_one

theorem one_le_normBound (p : StaticParams) (r : F64) : F64.one.le (normBound p r) = true := by
  unfold normBound
  split
  · exact one_le_expF_one p
  · decide +kernel

theorem one_le_normFree (hi tauP tauD : F64) : F64.one.le (normFree hi tauP tauD) = true := by
  obtain ⟨hone, -, -⟩ | hone := normFree_cases hi tauP tauD
  · exact hone
  · rw [hone]
    exact F64.one_le_one

theorem normFree_le {hi : F64} (hhi : F64.one.le hi = true) (tauP tauD : F64) :
    (normFree hi tauP tauD).le hi = true := by
  obtain ⟨-, hle, -⟩ | hone := normFree_cases hi tauP tauD
  · exact hle
  · rw [hone]
    exact hhi

section normalizer

variable {p : StaticParams} {tauP tauD : F64}

theorem normalizer_of_eq_zero (h : tauP.eq F64.zero = true) : normalizer p tauP tauD = F64.one := if_pos h

theorem normalizer_of_eq (hzero : tauP.eq F64.zero = false) (heq : tauP.eq tauD = true) :
    normalizer p tauP tauD = expF p F64.one := by
  rw [normalizer, hzero, if_neg Bool.false_ne_true, if_pos heq]

theorem normalizer_of_quotient (hzero : tauP.eq F64.zero = false) (hne : tauP.eq tauD = false)
    (hpos : F64.zero.lt (tauP.div tauD) = true) (hfin : (tauP.div tauD).isFinite = true) :
    normalizer p tauP tauD =
      (expF p ((((tauP.div tauD).div (F64.one.sub (tauP.div tauD))).neg).mul (lnF p (tauP.div tauD)))).max F64.one := by
  simp only [normalizer, hzero, hne, hpos, hfin, Bool.and_self, Bool.false_eq_true, if_false, if_true]

theorem normalizer_of_no_quotient (hzero : tauP.eq F64.zero = false) (hne : tauP.eq tauD = false)
    (hr : (F64.zero.lt (tauP.div tauD) && (tauP.div tauD).isFinite) = false) :
    normalizer p tauP tauD = normFree (normBound p (tauP.div tauD)) tauP tauD := by
  simp only [normalizer, hzero, hne, hr, Bool.false_eq_true, if_false]

theorem one_le_normalizer : F64.one.le (normalizer p tauP tauD) = true := by
  cases hzero : tauP.eq F64.zero with
  | true =>
    rw [normalizer_of_eq_zero hzero]
    exact F64.one_le_one
  | false =>
    cases heq : tauP.eq tauD with
    | true =>
      rw [normalizer_of_eq hzero heq]
      exact one_le_expF_one p
    | false =>
      cases hr : F64.zero.lt (tauP.div tauD) && (tauP.div tauD).isFinite with
      | true =>
        obtain ⟨hpos, hfin⟩ := Bool.and_eq_true_iff.mp hr
        rw [normalizer_of_quotient hzero heq hpos hfin]
        exact F64.one_le_max_one _
      | false =>
        rw [normalizer_of_no_quotient hzero heq hr]
        exact one_le_normFree _ _ _

end normalizer

/-! ## The envelope step (R229) -/

/-- The paths stand between the two envelope machines in R229's order, and write nothing that the amplitude envelope
reads. -/
theorem envStep_eq_of_machines (v : ParamSet) (s : State) :
    envStep v s =
      let s1 := pathStep (mainEnvStep (mainDecayMs v s) s)
      let s2 := { s1 with aLevel := (ampEnvStep s).aLevel, aStage := (ampEnvStep s).aStage }
      let s3 := declickStep (rawAmp v s2) s2
      ((cutoffAt v (modOctaves v s1) s1, s3.dk), s3) := by
  have hamp : ampEnvStep (pathStep (mainEnvStep (mainDecayMs v s) s)) =
      { pathStep (mainEnvStep (mainDecayMs v s) s) with
        aLevel := (ampEnvStep s).aLevel
        aStage := (ampEnvStep s).aStage } := by
    rw [mainEnvStep_eq]
    exact ampEnvStep_congr rfl rfl rfl rfl
  simp only [envStep, hamp]

end Sys2Proof.Machine

/-- Settles O36, by the envelope's equation in each stage. -/
theorem mainEnvelopeStep : Obligations.MainEnvelopeStep := by
  unfold Obligations.MainEnvelopeStep
  intro tauD s up hold factor down
  have hup : rampTo1 s.sta.mainRampMs s.fs s.mLevel = up := rfl
  have hdown : s.mLevel.mul (unitCoef s.sta (decayMul s.sta tauD s.fs)) = down := rfl
  refine ⟨fun hramp htop => ?_, fun hramp hbelow => ?_, fun hdecay hend => ?_, fun hdecay hmore => ?_,
    fun hidle => mainEnvStep_idle hidle⟩
  · rw [mainEnvStep_ramp hramp, hup, if_pos htop]
  · rw [mainEnvStep_ramp hramp, hup, if_neg (Bool.eq_false_iff.mp hbelow), ← hramp]
  · rw [mainEnvStep_decay hdecay, hdown, if_pos hend]
  · rw [mainEnvStep_decay hdecay, hdown, if_neg (Bool.eq_false_iff.mp hmore)]

/-- Settles O37, by the envelope's equation in each stage. -/
theorem amplitudeEnvelopeStep : Obligations.AmplitudeEnvelopeStep := by
  unfold Obligations.AmplitudeEnvelopeStep
  intro s sus up hold factor dec rel
  have hup : rampTo1 s.sta.ampAttackMs s.fs s.aLevel = up := rfl
  have hdec : ampDecayed s = dec := rfl
  have hrel : ampReleased s = rel := rfl
  refine ⟨fun hattack htop => ?_, fun hattack hbelow => ?_, fun hdecay hend => ?_, fun hdecay hmore => ?_,
    fun hsustain => ampEnvStep_sustain hsustain, fun hrelease hend => ?_, fun hrelease hmore => ?_,
    fun hidle => ampEnvStep_idle hidle⟩
  · rw [ampEnvStep_attack hattack, hup, if_pos htop]
  · rw [ampEnvStep_attack hattack, hup, if_neg (Bool.eq_false_iff.mp hbelow), ← hattack]
  · rw [ampEnvStep_decay hdecay, hdec, if_pos hend]
  · rw [ampEnvStep_decay hdecay, hdec, if_neg (Bool.eq_false_iff.mp hmore)]
  · rw [ampEnvStep_release hrelease, hrel, if_pos hend]
  · rw [ampEnvStep_release hrelease, hrel, if_neg (Bool.eq_false_iff.mp hmore)]

/-- Settles O38, by the normalizer's equation in each case. -/
theorem pathNormalizer : Obligations.PathNormalizer := by
  unfold Obligations.PathNormalizer
  intro p tauP tauD
  refine ⟨normalizer_of_eq_zero, normalizer_of_eq, fun hzero hne => ⟨fun hpos hfin => ?_, fun hno => ?_⟩,
    one_le_normalizer⟩
  · rw [normalizer_of_quotient hzero hne hpos hfin, F64.max_one]
  · rw [normalizer_of_no_quotient hzero hne (Bool.and_eq_false_iff.mpr hno)]
    exact normFree_le (one_le_normBound p _) tauP tauD

/-- Settles O39: the main envelope writes its two registers alone, and every later sub-step is its rule's formula on them. -/
theorem envelopeStep : Obligations.EnvelopeStep := by
  unfold Obligations.EnvelopeStep
  intro v s
  rw [envStep_eq_of_machines, mainEnvStep_eq]
  rfl

/-- Settles O57: the two envelope machines come to the same levels and stages, as they read none of the registers replaced,
and the paths, the cutoff and the declick are formulas that read none of them. -/
theorem envelopesReadNoOtherSubBlock : Obligations.EnvelopesReadNoOtherSubBlock := by
  unfold Obligations.EnvelopesReadNoOtherSubBlock
  intro v s slideF phase inc fA fB a b c d e other
  have hdecay : mainDecayMs v (other s) = mainDecayMs v s := rfl
  have hmain (tauD : F64) : mainEnvStep tauD (other s) = other (mainEnvStep tauD s) := by
    rw [mainEnvStep_congr (s := s) (t := other s) rfl rfl rfl rfl]
    exact congrArg other (mainEnvStep_eq tauD s).symm
  have hamp : ampEnvStep (other s) =
      { other s with aLevel := (ampEnvStep s).aLevel, aStage := (ampEnvStep s).aStage } :=
    ampEnvStep_congr rfl rfl rfl rfl
  rw [envStep_eq_of_machines, envStep_eq_of_machines, hdecay, hmain, hamp]
  rfl

end

section
/-! PROOFS. One filter (44_filter.md R250 to R273): the mode change and the approximate derivation in their two
cases each, the reference functions, and the filter step as core input, core step and pole mix. -/

open Sys2Proof Sys2Proof.Machine

namespace Sys2Proof.Machine

/-! ## Mode change (R257) -/

theorem setMode_of_eq {m : FilterMode} {f : FilterInst} (h : m = f.mode) : setMode m f = f := if_pos h

theorem setMode_of_ne {m : FilterMode} {f : FilterInst} (h : m ≠ f.mode) :
    setMode m f =
      { f with mode := m, y1 := F64.zero, y2 := F64.zero, y3 := F64.zero, y4 := F64.zero, fbs := F64.zero } :=
  if_neg h

/-! ## Coefficients (R259, R261, R262, R264) -/

section setParams

variable {fc res drv : F64} {f : FilterInst}

theorem setParams_of_same_inputs (p : StaticParams) (r : F64) (hcut : fc.eq f.cut = true)
    (hres : res.eq f.resRaw = true) (hdrv : drv.eq f.driveDb = true) : setParams p fc res drv r f = f := by
  simp only [setParams, hcut, hres, hdrv, Bool.not_true, Bool.or_self, Bool.false_eq_true, if_false]

theorem setParams_of_new_input (p : StaticParams) (r : F64)
    (hnew : fc.eq f.cut = false ∨ res.eq f.resRaw = false ∨ drv.eq f.driveDb = false) :
    setParams p fc res drv r f =
      { f with
        cut := fc
        resRaw := res
        driveDb := drv
        resSkew := resSkewF p (res.div (F64.ofNat 100))
        g := (coefApprox p fc res drv r).g
        k := (coefApprox p fc res drv r).k
        dl := (coefApprox p fc res drv r).dl } := by
  have hguard : (!fc.eq f.cut || !res.eq f.resRaw || !drv.eq f.driveDb) = true := by
    simpa only [Bool.or_eq_true, Bool.not_eq_true', or_assoc] using hnew
  exact if_pos hguard

end setParams

theorem coefApprox_reference {p : StaticParams} (h : p.coefApprox = .reference) (fc res drv r : F64) :
    coefApprox p fc res drv r = exactGKD p fc res drv r := by
  simp only [coefApprox, h]

theorem resSkewF_reference {p : StaticParams} (h : p.resSkew = .reference) (q : F64) :
    resSkewF p q = skewHeld q (refResSkew p q) := by
  simp only [resSkewF, h]

/-! ## The filter step (R265, R266, R268) -/

theorem shaper_reference {p : StaticParams} (h : p.shaper = .reference) (x : F64) : shaper p x = x := by
  simp only [shaper, h]

section filterStep

variable {f : FilterInst}

theorem filterStep_flat (h : f.mode = .flat) (p : StaticParams) (x : F64) : filterStep p f x = (x, f) := if_pos h

theorem filterStep_of_ne_flat (h : f.mode ≠ .flat) (p : StaticParams) (x : F64) :
    filterStep p f x =
      (poleMix (modeRow p f.mode) (coreInput p f x) (coreStep f (coreInput p f x)), coreStep f (coreInput p f x)) :=
  if_neg h

end filterStep

/-! ## The worked examples (R271, R272) -/

/-- The filter the worked examples start from, in a mode: states 0, `G` 0.5, `K` and `H` 0, `DL` 1. -/
def sampleFilter (m : FilterMode) : FilterInst :=
  { FilterInst.reset Config.REFCFG m with g := ⟨0x3FE0000000000000#64⟩, dl := F64.one }

/-- It after one step on 1.0: each section holds half of its input. -/
def sampleStepped (m : FilterMode) : FilterInst :=
  { sampleFilter m with
    y1 := ⟨0x3FE0000000000000#64⟩
    y2 := ⟨0x3FD0000000000000#64⟩
    y3 := ⟨0x3FC0000000000000#64⟩
    y4 := ⟨0x3FB0000000000000#64⟩ }

/-- At `K` 0 and `DL` 1 the feedback takes nothing from the input (R265). -/
theorem coreInput_sampleFilter (m : FilterMode) : coreInput Config.REFCFG (sampleFilter m) F64.one = F64.one := by
  have hsum : (F64.one.mul F64.one).sub (F64.zero.mul (F64.zero.sub F64.zero)) = F64.one := by decide +kernel
  simp only [coreInput, shaper_reference (p := Config.REFCFG) rfl, sampleFilter, FilterInst.reset, hsum]

theorem coreStep_sampleFilter (m : FilterMode) : coreStep (sampleFilter m) F64.one = sampleStepped m := by
  have hfbs : onePole F64.zero F64.zero F64.zero = F64.zero := by decide +kernel
  have hy1 : onePole ⟨0x3FE0000000000000#64⟩ F64.zero F64.one = ⟨0x3FE0000000000000#64⟩ := by decide +kernel
  have hy2 : onePole ⟨0x3FE0000000000000#64⟩ F64.zero ⟨0x3FE0000000000000#64⟩ = ⟨0x3FD0000000000000#64⟩ := by
    decide +kernel
  have hy3 : onePole ⟨0x3FE0000000000000#64⟩ F64.zero ⟨0x3FD0000000000000#64⟩ = ⟨0x3FC0000000000000#64⟩ := by
    decide +kernel
  have hy4 : onePole ⟨0x3FE0000000000000#64⟩ F64.zero ⟨0x3FC0000000000000#64⟩ = ⟨0x3FB0000000000000#64⟩ := by
    decide +kernel
  simp only [coreStep, sampleStepped, sampleFilter, FilterInst.reset, hfbs, hy1, hy2, hy3, hy4]

theorem filterStep_sampleFilter {m : FilterMode} (h : m ≠ .flat) :
    filterStep Config.REFCFG (sampleFilter m) F64.one =
      (poleMix (modeRow Config.REFCFG m) F64.one (sampleStepped m), sampleStepped m) := by
  have hmode : (sampleFilter m).mode = m := rfl
  rw [filterStep_of_ne_flat (hmode ▸ h), coreInput_sampleFilter, coreStep_sampleFilter, hmode]

end Sys2Proof.Machine

/-- Settles O40, by the two cases of the mode change. -/
theorem modeChangeClearsTheDelays : Obligations.ModeChangeClearsTheDelays := by
  unfold Obligations.ModeChangeClearsTheDelays
  exact fun _ _ => ⟨setMode_of_eq, setMode_of_ne⟩

/-- Settles O41: the guard of the derivation in its two cases, then the reference functions by their equations. -/
theorem coefficientsFollowTheirInputs : Obligations.CoefficientsFollowTheirInputs := by
  unfold Obligations.CoefficientsFollowTheirInputs
  intro p fc res drv r f c
  refine ⟨setParams_of_same_inputs p r, setParams_of_new_input p r, fun hcoef => ?_, fun hskew q => ?_⟩
  · have hc : c = exactGKD p fc res drv r := coefApprox_reference hcoef fc res drv r
    rw [hc]
    exact ⟨rfl, rfl, rfl⟩
  · exact resSkewF_reference hskew q

/-- Settles O42: FLAT, and the step put together from core input, core step and pole mix. (The model's function has the
obligation's own name.) -/
theorem filterStepOutputAndDelays : Obligations.FilterStep := by
  unfold Obligations.FilterStep
  intro p f x pole u y1 y2 y3 y4 row
  exact ⟨fun hflat => filterStep_flat hflat p x, fun hmode => filterStep_of_ne_flat hmode p x⟩

/-- Settles O43: one step from the sample states by its equation in every mode, so that the outputs are pole mixes of the
same four sections; the second step, the feedback and the table are evaluated. -/
theorem filterStepWorkedExamples : Obligations.FilterStepWorkedExamples := by
  unfold Obligations.FilterStepWorkedExamples
  intro p half f g states
  have hstep {m : FilterMode} (hm : m ≠ .flat) :
      filterStep p (f m) F64.one = (poleMix (modeRow p m) F64.one (sampleStepped m), sampleStepped m) :=
    filterStep_sampleFilter hm
  have hladder : filterStep p (f .ladder) F64.one =
      (poleMix (modeRow p .ladder) F64.one (sampleStepped .ladder), sampleStepped .ladder) := hstep nofun
  have houtputs : ∀ m ∈ [FilterMode.lp6, .lp24, .ladder, .hp6, .hp12, .hp24, .bp12_12],
      (filterStep p (f m) F64.one).1.toBits = (poleMix (modeRow p m) F64.one (sampleStepped m)).toBits := by
    intro m hm
    have hne : m ≠ .flat := by
      rintro rfl
      exact absurd hm (by decide)
    rw [hstep hne]
  refine ⟨?firstStep, ?secondStep, ?outputs, ?feedback, ?table⟩
  case firstStep =>
    rw [hladder]
    rfl
  case secondStep =>
    rw [hladder]
    decide +kernel
  case outputs =>
    rw [List.map_congr_left houtputs]
    decide +kernel
  case feedback => decide +kernel
  case table => decide +kernel

end

section
/-! PROOFS. An idle block (45_morph_chain.md R306, R308, R309): its TICK, what no command but TRIGGER changes, and any
number of commands by induction. -/

open Sys2Proof Sys2Proof.Machine

namespace Sys2Proof

/-- The commands other than READ_STATUS, READ_PARAM and READ_CONFIG, by their opcodes (30_encoding.md R85). -/
def Instr.NoRead (i : Instr) : Prop := i.opcode ≠ 0xA ∧ i.opcode ≠ 0xB ∧ i.opcode ≠ 0xC

/-- TICK is the one responding command that reads no register (30_encoding.md R80). -/
theorem Instr.NoRead.eq_tick {i : Instr} (h : i.NoRead) (hresponds : i.responds = true) : ∃ d, i = .tick d := by
  obtain ⟨hstatus, hparam, hconfig⟩ := h
  cases i with
  | tick d => exact ⟨d, rfl⟩
  | readStatus => exact absurd rfl hstatus
  | readParam sel addr => exact absurd rfl hparam
  | readConfig addr => exact absurd rfl hconfig
  | _ => contradiction

end Sys2Proof

namespace Sys2Proof.Machine

variable {s t u : State} {i : Instr}

/-! ## Every command completes, and only a responding one responds (00_scope.md R11, 30_encoding.md R80) -/

theorem exec_completes (i : Instr) (s : State) :
    ∃ t, exec i s = .next t ∧ (i.responds = false → t.responses = s.responses) := by
  cases i with
  | nop => exact ⟨s, rfl, fun _ => rfl⟩
  | setRate data =>
    simp only [exec, execSetRate]
    split_ifs <;> exact ⟨_, rfl, fun _ => rfl⟩
  | writeParam addr data =>
    cases hj : paramAt addr with
    | none => exact ⟨_, exec_writeParam_none hj, fun _ => rfl⟩
    | some j =>
      cases hfin : (F64.fromBits data).isFinite with
      | false => exact ⟨_, exec_writeParam_nonFinite hj hfin, fun _ => rfl⟩
      | true => exact ⟨_, exec_writeParam_some hj hfin, fun _ => rfl⟩
  | writeConfig addr data =>
    cases hblock : s.inBlock with
    | true => exact ⟨_, exec_writeConfig_inBlock hblock, fun _ => rfl⟩
    | false =>
      cases ha : configAt addr with
      | none => exact ⟨_, exec_writeConfig_none hblock ha, fun _ => rfl⟩
      | some a =>
        cases hfin : (F64.fromBits data).isFinite with
        | false => exact ⟨_, exec_writeConfig_nonFinite hblock ha hfin, fun _ => rfl⟩
        | true =>
          cases hvalue : configValue a (F64.fromBits data) with
          | none => exact ⟨_, exec_writeConfig_illegal hblock ha hfin hvalue, fun _ => rfl⟩
          | some y => exact ⟨_, exec_writeConfig_legal hblock ha hfin hvalue, fun _ => rfl⟩
  | beginBlock len =>
    simp only [exec, execBeginBlock]
    split_ifs <;> exact ⟨_, rfl, fun _ => rfl⟩
  | trigger note vel =>
    simp only [exec, execTrigger]
    split_ifs <;> exact ⟨_, rfl, fun _ => rfl⟩
  | slide note =>
    simp only [exec, execSlide]
    split <;> exact ⟨_, rfl, fun _ => rfl⟩
  | release =>
    simp only [exec, execRelease]
    split_ifs <;> exact ⟨_, rfl, fun _ => rfl⟩
  | allOff =>
    simp only [exec, execAllOff]
    split_ifs
    · exact ⟨_, rfl, fun _ => rfl⟩
    · cases s.sta.allOffMode <;> exact ⟨_, rfl, fun _ => rfl⟩
  | tick data =>
    simp only [exec, execTick]
    split_ifs <;> exact ⟨_, rfl, nofun⟩
  | readStatus => exact ⟨_, rfl, nofun⟩
  | readParam sel addr =>
    cases hj : paramAt addr with
    | none => exact ⟨_, exec_readParam_none sel hj, nofun⟩
    | some j => exact ⟨_, exec_readParam_some sel hj, nofun⟩
  | readConfig addr =>
    cases ha : configAt addr with
    | none => exact ⟨_, exec_readConfig_none ha, nofun⟩
    | some a => exact ⟨_, exec_readConfig_some ha, nofun⟩
  | clearStatus => exact ⟨_, rfl, fun _ => rfl⟩

/-! ## The idle TICK (R306) -/

theorem render_of_idle (hidle : s.idle = true) (v : ParamSet) (x : F64) : render v x s = (F64.zero, s) := if_pos hidle

theorem render_noteInput_of_idle (hidle : s.idle = true) (v : ParamSet) (x y : F64) :
    render v x (noteInput y s) = (F64.zero, noteInput y s) :=
  render_of_idle ((noteInput_idle y s).trans hidle) v x

theorem exec_tick_idle (hopen : s.inBlock = true) (hidle : s.idle = true) (d : DataWord) :
    exec (.tick d) s = .next (respond 0 (blockAdvance (noteInput (F64.fromBits d) s))) := by
  rw [exec_tick_open hopen, render_noteInput_of_idle hidle]
  rfl

/-! ## What stays while idle (R308, R309, 41_note.md R158) -/

/-- `t` is idle, with the oscillator where `s` left it. -/
structure StaysIdle (s t : State) : Prop where
  idle : t.idle = true
  slideF : t.slideF = s.slideF
  phase : t.phase = s.phase

theorem StaysIdle.refl (hidle : s.idle = true) : StaysIdle s s := ⟨hidle, rfl, rfl⟩

theorem StaysIdle.trans (hst : StaysIdle s t) (htu : StaysIdle t u) : StaysIdle s u :=
  ⟨htu.idle, htu.slideF.trans hst.slideF, htu.phase.trans hst.phase⟩

/-- No path but a TRIGGER's clears IDLE, and SLIDE_F and PHASE are written by a TRIGGER and a sounding TICK alone. -/
theorem Effect.staysIdle (h : Effect s i t) (hi : i.opcode ≠ 0x5) (hidle : s.idle = true) : StaysIdle s t := by
  cases h with
  | rejected e responds =>
    rw [raise_eq]
    exact ⟨hidle, rfl, rfl⟩
  | triggered => exact absurd rfl hi
  | ticked hopen hr =>
    rw [render_noteInput_of_idle hidle] at hr
    subst hr
    exact ⟨by simpa using hidle, by simp, by simp⟩
  | _ => exact ⟨hidle, rfl, rfl⟩

/-- `t` has had the responses of `s` and then only zeros. -/
def AddsZeros (s t : State) : Prop := ∃ k : Nat, t.responses = s.responses ++ List.replicate k 0

theorem AddsZeros.of_eq (h : t.responses = s.responses) : AddsZeros s t := ⟨0, h.trans (List.append_nil _).symm⟩

theorem AddsZeros.trans (hst : AddsZeros s t) (htu : AddsZeros t u) : AddsZeros s u := by
  obtain ⟨j, hj⟩ := hst
  obtain ⟨k, hk⟩ := htu
  exact ⟨j + k, by rw [hk, hj, List.append_assoc, List.replicate_append_replicate]⟩

/-- A TICK responds 0, with no block open by its rejection and in an idle one by R306. -/
theorem addsZeros_of_exec_tick (hidle : s.idle = true) {d : DataWord} (h : exec (.tick d) s = .next t) :
    AddsZeros s t := by
  cases hblock : s.inBlock with
  | false =>
    rw [exec_tick_closed hblock] at h
    cases h
    exact ⟨1, rfl⟩
  | true =>
    rw [exec_tick_idle hblock hidle] at h
    cases h
    exact ⟨1, by simp⟩

theorem exec_of_idle (hidle : s.idle = true) (hi : i.opcode ≠ 0x5) :
    ∃ t, exec i s = .next t ∧ StaysIdle s t ∧ (i.NoRead → AddsZeros s t) := by
  obtain ⟨t, hexec, hquiet⟩ := exec_completes i s
  refine ⟨t, hexec, (effect_of_exec hexec).staysIdle hi hidle, fun hread => ?_⟩
  cases hresponds : i.responds with
  | false => exact .of_eq (hquiet hresponds)
  | true =>
    obtain ⟨d, rfl⟩ := hread.eq_tick hresponds
    exact addsZeros_of_exec_tick hidle hexec

theorem runCommands_of_idle (is : List Instr) (hidle : s.idle = true) (his : ∀ i ∈ is, i.opcode ≠ 0x5) :
    ∃ t, runCommands is s = some t ∧ StaysIdle s t ∧ ((∀ i ∈ is, i.NoRead) → AddsZeros s t) := by
  induction is generalizing s with
  | nil => exact ⟨s, rfl, .refl hidle, fun _ => .of_eq rfl⟩
  | cons i is ih =>
    obtain ⟨hi, hrest⟩ := List.forall_mem_cons.mp his
    obtain ⟨t, hexec, hstays, hzeros⟩ := exec_of_idle hidle hi
    obtain ⟨u, hrun, hstays', hzeros'⟩ := ih hstays.idle hrest
    refine ⟨u, (runCommands_cons hexec).trans hrun, hstays.trans hstays', fun hreads => ?_⟩
    obtain ⟨hread, hreads⟩ := List.forall_mem_cons.mp hreads
    exact (hzeros hread).trans (hzeros' hreads)

end Sys2Proof.Machine

/-- Settles O31, by induction on the commands: each completes and leaves the block idle. -/
theorem idleBlockStaysSilent : Obligations.IdleBlockStaysSilent := by
  unfold Obligations.IdleBlockStaysSilent
  intro is s hidle his
  obtain ⟨t, hrun, ⟨hidle', hslideF, hphase⟩, hzeros⟩ := runCommands_of_idle is hidle his
  exact ⟨t, hrun, hidle', hslideF, hphase, hzeros⟩

/-- Settles O23: the idle TICK, by whether it is its block's last one. -/
theorem idleTickIsSilent : Obligations.IdleTickIsSilent := by
  unfold Obligations.IdleTickIsSilent
  intro d s hopen hidle err
  have hinput : noteInput (F64.fromBits d) s = { s with err := err } := noteInput_eq _ s
  rw [exec_tick_idle hopen hidle, hinput]
  refine ⟨fun hlast => ?_, fun hinner => ?_⟩
  · rw [blockAdvance_last (s := { s with err := err }) hlast]
    rfl
  · rw [blockAdvance_inner (s := { s with err := err }) hinner]
    rfl

end

section
/-! PROOFS. The morph engine, the chain and the output (45_morph_chain.md R290 to R307): filter A's mode on each branch, a
stage as a list of sections, the passes of a TICK counted from the last, and the idle check in its two cases. -/

open Sys2Proof Sys2Proof.Machine

namespace Sys2Proof.Machine

variable {s : State}

/-! ## Morph engine (R290 to R293) -/

theorem modeAFor_low {pos : F64} (hlow : morphLow s.sta pos = true) : modeAFor pos s = .ladder := if_pos hlow

theorem modeAFor_high {pos : F64} {m : FilterMode} (hhigh : morphLow s.sta pos = false)
    (hmode : modeOfNum s.cfg.morphHiMode = some m) : modeAFor pos s = m := by
  rw [modeAFor, if_neg (Bool.eq_false_iff.mp hhigh), hmode]
  rfl

theorem modeOfNum_six : modeOfNum (F64.ofNat 6) = some .hp12 := by decide +kernel

theorem modeOfNum_eight : modeOfNum (F64.ofNat 8) = some .hp24 := by decide +kernel

theorem morphSetup_of_modeAFor {v : ParamSet} {m : FilterMode} (h : modeAFor v.morph s = m) (fc : F64) :
    morphSetup v fc s =
      { s with
        fA := setParams s.sta fc v.resonance v.drive (filterRate s) (setMode m s.fA)
        fB := setParams s.sta fc v.resonance v.drive (filterRate s) (setMode s.sta.morphBMode s.fB) } := by
  rw [morphSetup, h]

theorem morphOut_eq (pos xin : F64) (s : State) :
    morphOut pos xin s =
      (crossfade (morphLow s.sta pos) (morphFraction s.sta pos) (filterStep s.sta s.fA xin).1
          (s.sta.filterBGain.mul (filterStep s.sta s.fB xin).1),
        { s with fA := (filterStep s.sta s.fA xin).2, fB := (filterStep s.sta s.fB xin).2 }) := rfl

/-! ## Stages and the pass chain (R296, R298, R299) -/

theorem auxRun_cons (b : Biquad) (bs : List Biquad) (x : F64) :
    auxRun (b :: bs) x =
      ((auxRun bs (biquadStep b x).1).1, (biquadStep b x).2 :: (auxRun bs (biquadStep b x).1).2) := rfl

theorem auxRun_append (bs cs : List Biquad) (x : F64) :
    auxRun (bs ++ cs) x = ((auxRun cs (auxRun bs x).1).1, (auxRun bs x).2 ++ (auxRun cs (auxRun bs x).1).2) := by
  induction bs generalizing x with
  | nil => rfl
  | cons b bs ih => rw [List.cons_append, auxRun_cons, ih, auxRun_cons, List.cons_append]

/-- The filters are the only registers the morph output writes, so the chain's stages are those it had. -/
theorem passChain_eq (osc x : F64) (v : ParamSet) (s : State) :
    passChain osc x v s =
      let pre := auxRun s.preHpf osc
      let y := morphOut v.morph (blendInput v.extmix pre.1 x) { s with preHpf := pre.2 }
      let z := auxRun s.aaLpf y.1
      (z.1, { s with preHpf := pre.2, fA := y.2.fA, fB := y.2.fB, aaLpf := z.2 }) := rfl

/-! ## The passes of a TICK (R301, 42_tick_osc.md R180) -/

theorem onePass_eq_passChain (x : F64) (v : ParamSet) (s : State) :
    onePass x v s = passChain (oscPass v s).1 x v (oscPass v s).2 := rfl

/-- The model runs the first pass and then the others; this is the same run seen from its last pass. -/
theorem passes_succ_eq_last (x : F64) (v : ParamSet) (n : Nat) (z : F64) (s : State) :
    passes x v (n + 1) z s = onePass x v (passes x v n z s).2 := by
  induction n generalizing z s with
  | zero => rfl
  | succ n ih =>
    calc passes x v (n + 1 + 1) z s
        = passes x v (n + 1) (onePass x v s).1 (onePass x v s).2 := rfl
      _ = onePass x v (passes x v n (onePass x v s).1 (onePass x v s).2).2 := ih _ _
      _ = onePass x v (passes x v (n + 1) z s).2 := rfl

/-! ## Output stage and idle check (R302, R307) -/

theorem pow10F_reference {p : StaticParams} (h : p.pow10Fn = .reference) (x : F64) : pow10F p x = refPow10 x := by
  simp only [pow10F, h]

theorem outputStage_eq_stages (z amp : F64) (v : ParamSet) (s : State) :
    outputStage z amp v s =
      let a := auxRun s.allpass z
      let h := auxRun s.postHpf a.1
      let n := auxRun s.notch h.1
      ((n.1.mul amp).mul (pow10F s.sta (v.volume.div (F64.ofNat 20))),
        { s with allpass := a.2, postHpf := h.2, notch := n.2 }) := rfl

theorem idleCheck_of_rest (h : s.noteState = .silent ∧ s.aStage = .idle ∧ s.dk.abs.le s.sta.idleEps = true) :
    idleCheck s = { s with idle := true, dk := F64.zero } := if_pos h

theorem idleCheck_of_not_rest (h : ¬(s.noteState = .silent ∧ s.aStage = .idle ∧ s.dk.abs.le s.sta.idleEps = true)) :
    idleCheck s = s := if_neg h

end Sys2Proof.Machine

/-- Settles O48, by induction on the passes before the last. -/
theorem onlyTheLastPassIsHeard : Obligations.OnlyTheLastPassIsHeard := by
  unfold Obligations.OnlyTheLastPassIsHeard
  exact fun x v n z s => ⟨passes_succ_eq_last x v n z s, rfl, onePass_eq_passChain x v s⟩

/-- Settles O44, by filter A's mode on each branch. -/
theorem morphSetupChoosesTheModes : Obligations.MorphSetupChoosesTheModes := by
  unfold Obligations.MorphSetupChoosesTheModes
  intro v fc s low r set
  refine ⟨fun hlow => morphSetup_of_modeAFor (modeAFor_low hlow) fc, fun hhigh hmode6 => ?_, fun hhigh hmode8 => ?_⟩
  · exact morphSetup_of_modeAFor (modeAFor_high hhigh (hmode6 ▸ modeOfNum_six)) fc
  · exact morphSetup_of_modeAFor (modeAFor_high hhigh (hmode8 ▸ modeOfNum_eight)) fc

/-- Settles O45: the branch and the fraction are R290's and R291's formulas. -/
theorem morphOutputCrossfades : Obligations.MorphOutputCrossfades := by
  unfold Obligations.MorphOutputCrossfades
  intro pos xin s low raw f a b yB
  have hfraction : morphFraction s.sta pos = f := rfl
  rw [morphOut_eq, hfraction, crossfade]
  rfl

/-- Settles O46, by evaluating each position. -/
theorem morphWeightsAtSamplePositions : Obligations.MorphWeightsAtSamplePositions := by
  unfold Obligations.MorphWeightsAtSamplePositions
  exact ⟨by decide +kernel, by decide +kernel, by decide +kernel,
    by decide +kernel, by decide +kernel, by decide +kernel⟩

/-- Settles O47: the pass and the section by their equations, stages in a row by induction on the sections. (The model's
function has the obligation's own name.) -/
theorem passChainAndSections : Obligations.PassChain := by
  unfold Obligations.PassChain
  exact ⟨passChain_eq, fun b x => rfl, fun x => rfl, auxRun_cons,
    fun bs cs x => ⟨auxRun_append bs cs x, auxRun_length bs x⟩⟩

/-- Settles O49: the gains are evaluated with the reference POW10; stages and idle check by their equations. -/
theorem outputStageAndIdleCheck : Obligations.OutputStageAndIdleCheck := by
  unfold Obligations.OutputStageAndIdleCheck
  refine ⟨fun p hpow => ?_, outputStage_eq_stages, fun s => ⟨idleCheck_of_rest, idleCheck_of_not_rest⟩⟩
  simp only [pow10F_reference hpow]
  exact ⟨by decide +kernel, by decide +kernel, by decide +kernel⟩

end

section
/-! PROOFS. Errors stop and steer nothing (60_exceptions.md R331, R334, R337): every step completes, and replacing the
error bits commutes with each sub-step of a TICK, and so with every path of a command that reads none of them. -/

open Sys2Proof Sys2Proof.Machine

namespace Sys2Proof.Machine

variable {s : State} {i : Instr}

/-! ## Every step completes (R337) -/

theorem step_of_port_nil (hport : s.port = []) : step s = .next s := by
  simp only [step, nextCommand, hport]

theorem step_completes (s : State) : ∃ t, step s = .next t := by
  cases hport : s.port with
  | nil => exact ⟨s, step_of_port_nil hport⟩
  | cons c rest =>
    cases hdec : decode c with
    | command i =>
      obtain ⟨t, hexec, -⟩ := exec_completes i { s with port := rest }
      exact ⟨t, (step_of_decode_command hport hdec).trans hexec⟩
    | reservedBits responds => exact ⟨_, step_of_decode_reservedBits hport hdec⟩
    | reservedOpcode => exact ⟨_, step_of_decode_reservedOpcode hport hdec⟩

/-! ## Sets of error bits (10_state.md R22) -/

/-- The bits of `a` and those of `b`. -/
def ErrBits.union (a b : ErrBits) : ErrBits where
  rate := a.rate || b.rate
  seq := a.seq || b.seq
  cmd := a.cmd || b.cmd
  addr := a.addr || b.addr
  value := a.value || b.value

@[simp] theorem ErrBits.union_clear (b : ErrBits) : b.union ErrBits.clear = b := by
  simp [ErrBits.union, ErrBits.clear]

/-- Setting a bit adds the set of that bit alone, whichever bits stand. -/
theorem ErrBits.set_eq_union (b : ErrBits) (c : ErrCode) : b.set c = b.union (ErrBits.clear.set c) := by
  cases c <;> simp [ErrBits.set, ErrBits.union, ErrBits.clear]

/-! ## The sub-steps of a TICK from other error bits (42_tick_osc.md R180) -/

/-- `s` with the error bits `e`. -/
def State.withErr (s : State) (e : ErrBits) : State := { s with err := e }

section withErr

variable (e : ErrBits) (v : ParamSet) (x z tauD : F64) (s : State)

theorem noteInput_withErr :
    noteInput x (s.withErr e) = s.withErr (e.union (if x.isFinite then ErrBits.clear else ErrBits.clear.set .value)) := by
  rw [noteInput_eq]
  split
  · rw [ErrBits.union_clear, State.withErr]
  · rw [← ErrBits.set_eq_union]
    rfl

theorem mainEnvStep_withErr : mainEnvStep tauD (s.withErr e) = (mainEnvStep tauD s).withErr e := by
  rw [mainEnvStep_congr (s := s) (t := s.withErr e) rfl rfl rfl rfl]
  exact congrArg (·.withErr e) (mainEnvStep_eq tauD s).symm

theorem envStep_withErr : envStep v (s.withErr e) = (envStep v s).map id (·.withErr e) := by
  have hdecay : mainDecayMs v (s.withErr e) = mainDecayMs v s := rfl
  have hamp : ampEnvStep (s.withErr e) =
      { s.withErr e with aLevel := (ampEnvStep s).aLevel, aStage := (ampEnvStep s).aStage } :=
    ampEnvStep_congr rfl rfl rfl rfl
  rw [envStep_eq_of_machines, envStep_eq_of_machines, hdecay, mainEnvStep_withErr, hamp]
  rfl

theorem onePass_withErr : onePass x v (s.withErr e) = (onePass x v s).map id (·.withErr e) := by
  simp only [onePass_eq_passChain, oscPass_eq, passChain_eq, morphOut_eq, State.withErr, Prod.map, id]

theorem passes_withErr (n : Nat) : passes x v n z (s.withErr e) = (passes x v n z s).map id (·.withErr e) := by
  induction n generalizing z s with
  | zero => rfl
  | succ n ih =>
    simp only [passes, onePass_withErr]
    exact ih _ _

theorem idleCheck_withErr : idleCheck (s.withErr e) = (idleCheck s).withErr e := by
  by_cases h : s.noteState = .silent ∧ s.aStage = .idle ∧ s.dk.abs.le s.sta.idleEps = true
  · rw [idleCheck_of_rest h, idleCheck_of_rest (s := s.withErr e) h]
    rfl
  · rw [idleCheck_of_not_rest h, idleCheck_of_not_rest (s := s.withErr e) h]

theorem soundTick_withErr : soundTick v x (s.withErr e) = (soundTick v x s).map id (·.withErr e) := by
  have hpitch : pitchStep v (s.withErr e) = (pitchStep v s).withErr e := rfl
  have hmorph (fc : F64) (t : State) : morphSetup v fc (t.withErr e) = (morphSetup v fc t).withErr e := rfl
  have hout (z amp : F64) (t : State) :
      outputStage z amp v (t.withErr e) = (outputStage z amp v t).map id (·.withErr e) := rfl
  have hos (t : State) : (t.withErr e).sta = t.sta := rfl
  simp only [soundTick, hpitch, envStep_withErr, Prod.map, id, hmorph, hos, passes_withErr, hout, idleCheck_withErr]

theorem render_withErr : render v x (s.withErr e) = (render v x s).map id (·.withErr e) := by
  cases hidle : s.idle with
  | true =>
    rw [render_of_idle hidle, render_of_idle (s := s.withErr e) hidle]
    rfl
  | false =>
    rw [render_of_idle_eq_false hidle, render_of_idle_eq_false (s := s.withErr e) hidle]
    exact soundTick_withErr e v x s

theorem blockAdvance_withErr : blockAdvance (s.withErr e) = (blockAdvance s).withErr e := by
  by_cases h : s.ticksDone.toNat + 1 = s.blockLen.toNat
  · rw [blockAdvance_last h, blockAdvance_last (s := s.withErr e) h]
    rfl
  · rw [blockAdvance_inner h, blockAdvance_inner (s := s.withErr e) h]
    rfl

end withErr

/-! ## Commands from other error bits (R334) -/

/-- From `s` with any error bits, command `i` leads to one and the same state but for its error bits, to which it adds one
and the same set. -/
def IgnoresErr (i : Instr) (s : State) : Prop :=
  ∃ (t : State) (added : ErrBits), ∀ e : ErrBits, exec i (s.withErr e) = .next (t.withErr (e.union added))

/-- A path that writes no error bit: where it leads from the error bits `e` is `path e`. -/
theorem IgnoresErr.of_keeps {path : ErrBits → State} (h : ∀ e, exec i (s.withErr e) = .next (path e))
    (hpath : ∀ e, path e = (path s.err).withErr e := by exact fun _ => rfl) : IgnoresErr i s :=
  ⟨path s.err, ErrBits.clear, fun e => by rw [h, ErrBits.union_clear, hpath]⟩

theorem IgnoresErr.of_raises (c : ErrCode) (responds : Bool)
    (h : ∀ e, exec i (s.withErr e) = .next (raise c responds (s.withErr e))) : IgnoresErr i s :=
  ⟨raise c responds s, ErrBits.clear.set c, fun e => by
    rw [h, ← ErrBits.set_eq_union, raise_eq, raise_eq]
    rfl⟩

theorem setRate_ignoresErr (data : DataWord) (s : State) : IgnoresErr (.setRate data) s := by
  cases hblock : s.inBlock with
  | true => exact .of_raises .seq false fun e => exec_setRate_inBlock (s := s.withErr e) hblock
  | false =>
    cases hrate : legalRate (F64.fromBits data) with
    | false => exact .of_raises .rate false fun e => exec_setRate_illegal (s := s.withErr e) hblock hrate
    | true => exact .of_keeps fun e => exec_setRate_legal (s := s.withErr e) hblock hrate

theorem writeParam_ignoresErr (addr : Nat) (data : DataWord) (s : State) : IgnoresErr (.writeParam addr data) s := by
  cases hj : paramAt addr with
  | none => exact .of_raises .addr false fun e => exec_writeParam_none hj
  | some j =>
    cases hfin : (F64.fromBits data).isFinite with
    | false => exact .of_raises .value false fun e => exec_writeParam_nonFinite hj hfin
    | true => exact .of_keeps fun e => exec_writeParam_some (s := s.withErr e) hj hfin

theorem writeConfig_ignoresErr (addr : Nat) (data : DataWord) (s : State) : IgnoresErr (.writeConfig addr data) s := by
  cases hblock : s.inBlock with
  | true => exact .of_raises .seq false fun e => exec_writeConfig_inBlock (s := s.withErr e) hblock
  | false =>
    cases ha : configAt addr with
    | none => exact .of_raises .addr false fun e => exec_writeConfig_none (s := s.withErr e) hblock ha
    | some a =>
      cases hfin : (F64.fromBits data).isFinite with
      | false => exact .of_raises .value false fun e => exec_writeConfig_nonFinite (s := s.withErr e) hblock ha hfin
      | true =>
        cases hvalue : configValue a (F64.fromBits data) with
        | none =>
          exact .of_raises .value false fun e => exec_writeConfig_illegal (s := s.withErr e) hblock ha hfin hvalue
        | some y => exact .of_keeps fun e => exec_writeConfig_legal (s := s.withErr e) hblock ha hfin hvalue

theorem beginBlock_ignoresErr (len : Nat) (s : State) : IgnoresErr (.beginBlock len) s := by
  by_cases hrejected : s.rateValid = false ∨ s.inBlock = true
  · exact .of_raises .seq false fun e => exec_beginBlock_rejected (s := s.withErr e) hrejected
  · obtain ⟨hrate, hblock⟩ : s.rateValid = true ∧ s.inBlock = false := by simpa using hrejected
    cases len with
    | zero => exact .of_raises .value false fun e => exec_beginBlock_zero (s := s.withErr e) hrate hblock
    | succ n =>
      exact .of_keeps fun e => exec_beginBlock_opens (s := s.withErr e) hrate hblock (Nat.succ_ne_zero n)

theorem note_ignoresErr (hi : i.opcode ∈ [0x5, 0x6, 0x7, 0x8]) (s : State) : IgnoresErr i s := by
  cases hstarted : blockStarted s with
  | true =>
    obtain ⟨hblock, hticks⟩ := blockStarted_iff.mp hstarted
    exact .of_raises .seq false fun e => exec_note_rejected (s := s.withErr e) hi hblock hticks
  | false =>
    have hready := blockStarted_eq_false_iff.mp hstarted
    obtain ⟨note, vel, rfl⟩ | ⟨note, rfl⟩ | rfl | rfl := eq_of_noteOpcode hi
    case inl =>
      cases vel with
      | zero => exact .of_keeps fun e => exec_trigger_zero (s := s.withErr e) hready note
      | succ n => exact .of_keeps fun e => exec_trigger_sounds (s := s.withErr e) hready note (Nat.succ_ne_zero n)
    case inr.inl => exact .of_keeps fun e => exec_slide_retunes (s := s.withErr e) hready note
    case inr.inr.inl => exact .of_keeps fun e => exec_release_releases (s := s.withErr e) hready
    case inr.inr.inr =>
      cases hmode : s.sta.allOffMode with
      | release => exact .of_keeps fun e => exec_allOff_releases (s := s.withErr e) hready hmode
      | clear => exact .of_keeps fun e => exec_allOff_clears (s := s.withErr e) hready hmode

/-- A TICK in a block adds the bit of its input sample alone (42_tick_osc.md R181). -/
theorem exec_tick_withErr (hopen : s.inBlock = true) (data : DataWord) (e : ErrBits) :
    exec (.tick data) (s.withErr e) =
      .next
        ((respond (render (smoothed s) (inputSample (F64.fromBits data)) s).1.toBits
            (blockAdvance (render (smoothed s) (inputSample (F64.fromBits data)) s).2)).withErr
          (e.union (if (F64.fromBits data).isFinite then ErrBits.clear else ErrBits.clear.set .value))) := by
  have hsmoothed : smoothed (s.withErr e) = smoothed s := rfl
  rw [exec_tick_open (s := s.withErr e) hopen, hsmoothed, noteInput_withErr, render_withErr, Prod.map_snd,
    blockAdvance_withErr]
  rfl

theorem tick_ignoresErr (data : DataWord) (s : State) : IgnoresErr (.tick data) s := by
  cases hblock : s.inBlock with
  | false => exact .of_raises .seq true fun e => exec_tick_closed (s := s.withErr e) hblock data
  | true => exact ⟨_, _, exec_tick_withErr hblock data⟩

theorem readParam_ignoresErr (sel : Bool) (addr : Nat) (s : State) : IgnoresErr (.readParam sel addr) s := by
  cases hj : paramAt addr with
  | none => exact .of_raises .addr true fun e => exec_readParam_none sel hj
  | some j => exact .of_keeps fun e => exec_readParam_some (s := s.withErr e) sel hj

theorem readConfig_ignoresErr (addr : Nat) (s : State) : IgnoresErr (.readConfig addr) s := by
  cases ha : configAt addr with
  | none => exact .of_raises .addr true fun e => exec_readConfig_none ha
  | some a => exact .of_keeps fun e => exec_readConfig_some (s := s.withErr e) ha

theorem exec_ignoresErr (hread : i ≠ .readStatus) (hclear : i ≠ .clearStatus) (s : State) : IgnoresErr i s := by
  cases i with
  | nop => exact .of_keeps fun e => rfl
  | setRate data => exact setRate_ignoresErr data s
  | writeParam addr data => exact writeParam_ignoresErr addr data s
  | writeConfig addr data => exact writeConfig_ignoresErr addr data s
  | beginBlock len => exact beginBlock_ignoresErr len s
  | trigger note vel => exact note_ignoresErr (by simp [Instr.opcode]) s
  | slide note => exact note_ignoresErr (by simp [Instr.opcode]) s
  | release => exact note_ignoresErr (by simp [Instr.opcode]) s
  | allOff => exact note_ignoresErr (by simp [Instr.opcode]) s
  | tick data => exact tick_ignoresErr data s
  | readStatus => exact absurd rfl hread
  | readParam sel addr => exact readParam_ignoresErr sel addr s
  | readConfig addr => exact readConfig_ignoresErr addr s
  | clearStatus => exact absurd rfl hclear

end Sys2Proof.Machine

/-- Settles O6: with a command presented, it is a rejected word or a command, and each of the two completes. -/
theorem everyStepAnswersNext : Obligations.EveryStepAnswersNext := by
  unfold Obligations.EveryStepAnswersNext
  exact fun s => ⟨step_of_port_nil, step_completes s⟩

/-- Settles O56: CLEAR_STATUS writes the error bits whatever they were, and every other command adds to them. -/
theorem errorBitsDoNotMatter : Obligations.ErrorBitsDoNotMatter := by
  unfold Obligations.ErrorBitsDoNotMatter
  intro i s hread none
  by_cases hclear : i = .clearStatus
  · subst hclear
    exact ⟨s.withErr none, rfl, fun e => rfl⟩
  · obtain ⟨t, added, hexec⟩ := exec_ignoresErr hread hclear s
    refine ⟨t.withErr added, hexec none, fun e => ?_⟩
    rw [if_neg hclear]
    exact hexec e

end

section
/-! PROOFS. Reset (70_reset_and_hazards.md R360, R361): the reset values of the reference configuration as the numbers of
the rule's table, a filter after reset, and what the reset event writes. -/

open Sys2Proof Sys2Proof.Machine

namespace Sys2Proof.Machine

/-! ## The reset values of the reference configuration (10_state.md R27, R30) -/

theorem paramReset_REFCFG_eq : Config.REFCFG.paramReset =
    { wave := ⟨0⟩, cutoff := F64.ofNat 1000, resonance := F64.ofNat 50, envmod := F64.ofNat 25, decay := F64.ofNat 400,
      accent := F64.ofNat 50, volume := ⟨0⟩, morph := ⟨0⟩, drive := ⟨0⟩, bend := ⟨0⟩, extmix := ⟨0⟩ } := by
  decide +kernel

theorem configReset_REFCFG_eq : Config.REFCFG.configReset =
    { tuning := F64.ofNat 440, slideTime := F64.ofNat 60, normalPathTau := F64.ofNat 15,
      accentPathTau := F64.ofNat 5, morphHiMode := F64.ofNat 8 } := by
  decide +kernel

/-! ## A filter after reset (10_state.md R36) -/

theorem fifty_div_hundred : (F64.ofNat 50).div (F64.ofNat 100) = ⟨0x3FE0000000000000#64⟩ := by decide +kernel

/-- RES_SKEW is taken at `PARAM_RESET[2] / 100`, which is 0.5. -/
theorem filterReset_REFCFG_eq (m : FilterMode) : FilterInst.reset Config.REFCFG m =
    ⟨m, ⟨0⟩, ⟨0⟩, ⟨0⟩, ⟨0⟩, ⟨0⟩, ⟨0⟩, ⟨0⟩, ⟨0⟩, ⟨0⟩, F64.ofNat 1000, F64.ofNat 50,
      resSkewF Config.REFCFG ⟨0x3FE0000000000000#64⟩, ⟨0⟩⟩ := by
  have hzero : F64.zero = ⟨0⟩ := rfl
  simp only [FilterInst.reset, paramReset_REFCFG_eq, fifty_div_hundred, hzero]

/-! ## The reset event (70_reset_and_hazards.md R360) -/

@[simp] theorem resetEvent_inBlock (s : State) : (resetEvent s).inBlock = false := rfl

@[simp] theorem resetEvent_pC (s : State) : (resetEvent s).pC = s.sta.paramReset := rfl

theorem resetEvent_REFCFG {s : State} (h : s.sta = Config.REFCFG) :
    resetEvent s = { State.reset with port := s.port, responses := s.responses } := by
  rw [resetEvent, h, State.reset]

end Sys2Proof.Machine

/-- Settles O50: the parameters, the configuration and the two filters by their reset values; an auxiliary stage of the
reference configuration is one section, and every other register is written as in the table. -/
theorem resetState : Obligations.ResetState := by
  unfold Obligations.ResetState
  exact ⟨rfl, rfl, rfl, rfl, rfl, rfl,
    paramReset_REFCFG_eq, paramReset_REFCFG_eq, paramReset_REFCFG_eq, configReset_REFCFG_eq,
    rfl, rfl, rfl, rfl, rfl, rfl, rfl, rfl, rfl, rfl, rfl, rfl, rfl,
    filterReset_REFCFG_eq .ladder, filterReset_REFCFG_eq .bp12_12, rfl, rfl,
    rfl, rfl, rfl, rfl, rfl, rfl, statusWord_reset⟩

/-- Settles O51: the event is the reset of the same static parameters, beside the port and the responses. -/
theorem resetEventIsTheResetState : Obligations.ResetEventIsTheResetState := by
  unfold Obligations.ResetEventIsTheResetState
  exact fun s => ⟨rfl, resetEvent_sta s, resetEvent_inBlock s, resetEvent_pC s, resetEvent_REFCFG⟩

end
